-- ==== Sys2Proof/Word.lean ====
section
/-! DEFINITION. The command word and the byte (SUB000 words are 32 bits: spec/30_encoding.md R110,
spec/20_memory.md R81). -/

namespace Sys2Proof

/-- A command, data or port word: 32 bits (R110). -/
abbrev Word := BitVec 32

/-- One byte of VRAM or of main memory (R80, R81). -/
abbrev Byte := BitVec 8

end Sys2Proof
end

