-- ==== Sys2Proof/Syntax.lean ====
section
/-! DEFINITION. The two command sets as syntax: the operand layouts of spec/30_encoding.md (R113 to
R127) and one constructor of `Instr` for each of the 320 rows of spec/opcode_table.json. Bits of a
word outside every field are ignored (R113) and have no place here. -/

namespace Sys2Proof

/-- The two ports a command can arrive by (R110): the sets share no opcode space. -/
inductive Port where
  | gp0
  | gp1
  deriving DecidableEq, Repr

/-- A 24-bit colour: `R8 = w[7:0]`, `G8 = w[15:8]`, `B8 = w[23:16]` (R12, R114). -/
structure Rgb where
  r : BitVec 8
  g : BitVec 8
  b : BitVec 8
  deriving DecidableEq, Repr

/-- A vertex word before the drawing offset: two signed 11-bit coordinates (R115). -/
structure Vtx where
  x : BitVec 11
  y : BitVec 11
  deriving DecidableEq, Repr

/-- A texel coordinate, `u = w[7:0]`, `v = w[15:8]` (R116). -/
structure Uv where
  u : BitVec 8
  v : BitVec 8
  deriving DecidableEq, Repr

/-- A CLUT selector: the palette starts at cell `(16 * cx, cy)` (R117). -/
structure ClutSel where
  cx : BitVec 6
  cy : BitVec 9
  deriving DecidableEq, Repr

/-- A page attribute, and bits 8:0 of the draw mode (R118, R21). -/
structure PageAttr where
  tpx : BitVec 4
  tpy : BitVec 1
  abr : BitVec 2
  tdepth : BitVec 2
  deriving DecidableEq, Repr

/-- `C0 V0 V1 V2` (R119, opcodes 20 to 23). -/
structure FlatTri where
  c0 : Rgb
  v0 : Vtx
  v1 : Vtx
  v2 : Vtx
  deriving DecidableEq, Repr

/-- `C0 V0 T0 V1 T1 V2 T2` (R119, opcodes 24 to 27); the CLUT selector is in T0, the page attribute in T1. -/
structure FlatTriTex where
  c0 : Rgb
  v0 : Vtx
  t0 : Uv
  clut : ClutSel
  v1 : Vtx
  t1 : Uv
  page : PageAttr
  v2 : Vtx
  t2 : Uv
  deriving DecidableEq, Repr

/-- `C0 V0 V1 V2 V3` (R119, opcodes 28 to 2B). -/
structure FlatQuad where
  c0 : Rgb
  v0 : Vtx
  v1 : Vtx
  v2 : Vtx
  v3 : Vtx
  deriving DecidableEq, Repr

/-- `C0 V0 T0 V1 T1 V2 T2 V3 T3` (R119, opcodes 2C to 2F). -/
structure FlatQuadTex where
  c0 : Rgb
  v0 : Vtx
  t0 : Uv
  clut : ClutSel
  v1 : Vtx
  t1 : Uv
  page : PageAttr
  v2 : Vtx
  t2 : Uv
  v3 : Vtx
  t3 : Uv
  deriving DecidableEq, Repr

/-- `C0 V0 C1 V1 C2 V2` (R119, opcodes 30 to 33). -/
structure GourTri where
  c0 : Rgb
  v0 : Vtx
  c1 : Rgb
  v1 : Vtx
  c2 : Rgb
  v2 : Vtx
  deriving DecidableEq, Repr

/-- `C0 V0 T0 C1 V1 T1 C2 V2 T2` (R119, opcodes 34 to 37). -/
structure GourTriTex where
  c0 : Rgb
  v0 : Vtx
  t0 : Uv
  clut : ClutSel
  c1 : Rgb
  v1 : Vtx
  t1 : Uv
  page : PageAttr
  c2 : Rgb
  v2 : Vtx
  t2 : Uv
  deriving DecidableEq, Repr

/-- `C0 V0 C1 V1 C2 V2 C3 V3` (R119, opcodes 38 to 3B). -/
structure GourQuad where
  c0 : Rgb
  v0 : Vtx
  c1 : Rgb
  v1 : Vtx
  c2 : Rgb
  v2 : Vtx
  c3 : Rgb
  v3 : Vtx
  deriving DecidableEq, Repr

/-- `C0 V0 T0 C1 V1 T1 C2 V2 T2 C3 V3 T3` (R119, opcodes 3C to 3F). -/
structure GourQuadTex where
  c0 : Rgb
  v0 : Vtx
  t0 : Uv
  clut : ClutSel
  c1 : Rgb
  v1 : Vtx
  t1 : Uv
  page : PageAttr
  c2 : Rgb
  v2 : Vtx
  t2 : Uv
  c3 : Rgb
  v3 : Vtx
  t3 : Uv
  deriving DecidableEq, Repr

/-- `C0 V0 V1` (R120, opcodes 40 to 4F). -/
structure FlatLine where
  c0 : Rgb
  v0 : Vtx
  v1 : Vtx
  deriving DecidableEq, Repr

/-- `C0 V0 C1 V1` (R120, opcodes 50 to 5F). -/
structure GourLine where
  c0 : Rgb
  v0 : Vtx
  c1 : Rgb
  v1 : Vtx
  deriving DecidableEq, Repr

/-- `C0 V0 SIZE` (R122, size 0, untextured). -/
structure RectVar where
  c0 : Rgb
  v0 : Vtx
  w : BitVec 10
  h : BitVec 9
  deriving DecidableEq, Repr

/-- `C0 V0 TEX SIZE` (R122, size 0, textured). -/
structure RectVarTex where
  c0 : Rgb
  v0 : Vtx
  t0 : Uv
  clut : ClutSel
  w : BitVec 10
  h : BitVec 9
  deriving DecidableEq, Repr

/-- `C0 V0` (R122, sizes 1, 2, 3, untextured). -/
structure RectFix where
  c0 : Rgb
  v0 : Vtx
  deriving DecidableEq, Repr

/-- `C0 V0 TEX` (R122, sizes 1, 2, 3, textured). -/
structure RectFixTex where
  c0 : Rgb
  v0 : Vtx
  t0 : Uv
  clut : ClutSel
  deriving DecidableEq, Repr

/-- FILL's operands as the command uses them: `x` rounded down and `w` rounded up to multiples of 16 (R123). -/
structure Fill where
  c0 : Rgb
  x : Nat
  y : BitVec 9
  w : Nat
  h : BitVec 9
  deriving DecidableEq, Repr

/-- VCOPY's operands; `w` is 1 to 1024 and `h` 1 to 512, a field of 0 meaning the maximum (R124). -/
structure Copy where
  sx : BitVec 10
  sy : BitVec 9
  dx : BitVec 10
  dy : BitVec 9
  w : Nat
  h : Nat
  deriving DecidableEq, Repr

/-- The rectangle of an image transfer, `w` and `h` as for VCOPY (R125). -/
structure Xfer where
  x : BitVec 10
  y : BitVec 9
  w : Nat
  h : Nat
  deriving DecidableEq, Repr

/-- E1's parameter (R126, R171). -/
structure SetMode where
  page : PageAttr
  dtd : Bool
  dfe : Bool
  deriving DecidableEq, Repr

/-- E2's parameter, in units of 8 texels (R126, R172). -/
structure SetTw where
  mx : BitVec 5
  my : BitVec 5
  ox : BitVec 5
  oy : BitVec 5
  deriving DecidableEq, Repr

/-- E3's and E4's parameter (R126, R173, R174). -/
structure SetClip where
  x : BitVec 10
  y : BitVec 9
  deriving DecidableEq, Repr

/-- E5's parameter, two signed 11-bit values (R126, R175). -/
structure SetOfs where
  x : BitVec 11
  y : BitVec 11
  deriving DecidableEq, Repr

/-- E6's parameter (R126, R176). -/
structure SetMask where
  setBit : Bool
  chkBit : Bool
  deriving DecidableEq, Repr

/-- GP1 03's parameter: 1 blanks the display (R127, R354). -/
structure DispEn where
  off : Bool
  deriving DecidableEq, Repr

/-- GP1 04's parameter (R127, R355). -/
structure DmaDir where
  dir : BitVec 2
  deriving DecidableEq, Repr

/-- GP1 05's parameter (R127, R356). -/
structure Origin where
  x : BitVec 10
  y : BitVec 9
  deriving DecidableEq, Repr

/-- GP1 06's parameter (R127, R357). -/
structure HRange where
  x1 : BitVec 12
  x2 : BitVec 12
  deriving DecidableEq, Repr

/-- GP1 07's parameter (R127, R358). -/
structure VRange where
  y1 : BitVec 10
  y2 : BitVec 10
  deriving DecidableEq, Repr

/-- GP1 08's parameter (R127, R359). -/
structure Mode where
  hres1 : BitVec 2
  vres : Bool
  pal : Bool
  c24 : Bool
  ilace : Bool
  hres2 : Bool
  rev : Bool
  deriving DecidableEq, Repr

/-- GP1 10 to 1F's parameter (R127, R361). -/
structure Info where
  index : BitVec 3
  deriving DecidableEq, Repr

/-- The operands of an instruction, by layout. -/
inductive Operands where
  | none
  | fill (o : Fill)
  | flatTri (o : FlatTri)
  | flatTriTex (o : FlatTriTex)
  | flatQuad (o : FlatQuad)
  | flatQuadTex (o : FlatQuadTex)
  | gourTri (o : GourTri)
  | gourTriTex (o : GourTriTex)
  | gourQuad (o : GourQuad)
  | gourQuadTex (o : GourQuadTex)
  | flatLine (o : FlatLine)
  | gourLine (o : GourLine)
  | rectVar (o : RectVar)
  | rectVarTex (o : RectVarTex)
  | rectFix (o : RectFix)
  | rectFixTex (o : RectFixTex)
  | copy (o : Copy)
  | xfer (o : Xfer)
  | setMode (o : SetMode)
  | setTw (o : SetTw)
  | setClip (o : SetClip)
  | setOfs (o : SetOfs)
  | setMask (o : SetMask)
  | dispEn (o : DispEn)
  | dmaDir (o : DmaDir)
  | origin (o : Origin)
  | hRange (o : HRange)
  | vRange (o : VRange)
  | mode (o : Mode)
  | info (o : Info)
  deriving DecidableEq, Repr

/-- The instructions: one constructor for each row of spec/opcode_table.json, those with operands
first. A constructor's name is its row's mnemonic; LAWS.json holds the map. An alias opcode (R129,
`.x<hh>`) is a constructor of its own. -/
inductive Instr where
  | fill (o : Fill)
  | polyF3 (o : FlatTri)
  | polyF3R (o : FlatTri)
  | polyF3S (o : FlatTri)
  | polyF3SR (o : FlatTri)
  | polyF3T (o : FlatTriTex)
  | polyF3TR (o : FlatTriTex)
  | polyF3TS (o : FlatTriTex)
  | polyF3TSR (o : FlatTriTex)
  | polyF4 (o : FlatQuad)
  | polyF4R (o : FlatQuad)
  | polyF4S (o : FlatQuad)
  | polyF4SR (o : FlatQuad)
  | polyF4T (o : FlatQuadTex)
  | polyF4TR (o : FlatQuadTex)
  | polyF4TS (o : FlatQuadTex)
  | polyF4TSR (o : FlatQuadTex)
  | polyG3 (o : GourTri)
  | polyG3R (o : GourTri)
  | polyG3S (o : GourTri)
  | polyG3SR (o : GourTri)
  | polyG3T (o : GourTriTex)
  | polyG3TR (o : GourTriTex)
  | polyG3TS (o : GourTriTex)
  | polyG3TSR (o : GourTriTex)
  | polyG4 (o : GourQuad)
  | polyG4R (o : GourQuad)
  | polyG4S (o : GourQuad)
  | polyG4SR (o : GourQuad)
  | polyG4T (o : GourQuadTex)
  | polyG4TR (o : GourQuadTex)
  | polyG4TS (o : GourQuadTex)
  | polyG4TSR (o : GourQuadTex)
  | lineF (o : FlatLine)
  | lineFX41 (o : FlatLine)
  | lineFS (o : FlatLine)
  | lineFSX43 (o : FlatLine)
  | lineFX44 (o : FlatLine)
  | lineFX45 (o : FlatLine)
  | lineFSX46 (o : FlatLine)
  | lineFSX47 (o : FlatLine)
  | plineF (o : FlatLine)
  | plineFX49 (o : FlatLine)
  | plineFS (o : FlatLine)
  | plineFSX4B (o : FlatLine)
  | plineFX4C (o : FlatLine)
  | plineFX4D (o : FlatLine)
  | plineFSX4E (o : FlatLine)
  | plineFSX4F (o : FlatLine)
  | lineG (o : GourLine)
  | lineGX51 (o : GourLine)
  | lineGS (o : GourLine)
  | lineGSX53 (o : GourLine)
  | lineGX54 (o : GourLine)
  | lineGX55 (o : GourLine)
  | lineGSX56 (o : GourLine)
  | lineGSX57 (o : GourLine)
  | plineG (o : GourLine)
  | plineGX59 (o : GourLine)
  | plineGS (o : GourLine)
  | plineGSX5B (o : GourLine)
  | plineGX5C (o : GourLine)
  | plineGX5D (o : GourLine)
  | plineGSX5E (o : GourLine)
  | plineGSX5F (o : GourLine)
  | rectV (o : RectVar)
  | rectVR (o : RectVar)
  | rectVS (o : RectVar)
  | rectVSR (o : RectVar)
  | rectVT (o : RectVarTex)
  | rectVTR (o : RectVarTex)
  | rectVTS (o : RectVarTex)
  | rectVTSR (o : RectVarTex)
  | rect1 (o : RectFix)
  | rect1R (o : RectFix)
  | rect1S (o : RectFix)
  | rect1SR (o : RectFix)
  | rect1T (o : RectFixTex)
  | rect1TR (o : RectFixTex)
  | rect1TS (o : RectFixTex)
  | rect1TSR (o : RectFixTex)
  | rect8 (o : RectFix)
  | rect8R (o : RectFix)
  | rect8S (o : RectFix)
  | rect8SR (o : RectFix)
  | rect8T (o : RectFixTex)
  | rect8TR (o : RectFixTex)
  | rect8TS (o : RectFixTex)
  | rect8TSR (o : RectFixTex)
  | rect16 (o : RectFix)
  | rect16R (o : RectFix)
  | rect16S (o : RectFix)
  | rect16SR (o : RectFix)
  | rect16T (o : RectFixTex)
  | rect16TR (o : RectFixTex)
  | rect16TS (o : RectFixTex)
  | rect16TSR (o : RectFixTex)
  | vcopy (o : Copy)
  | vcopyX81 (o : Copy)
  | vcopyX82 (o : Copy)
  | vcopyX83 (o : Copy)
  | vcopyX84 (o : Copy)
  | vcopyX85 (o : Copy)
  | vcopyX86 (o : Copy)
  | vcopyX87 (o : Copy)
  | vcopyX88 (o : Copy)
  | vcopyX89 (o : Copy)
  | vcopyX8A (o : Copy)
  | vcopyX8B (o : Copy)
  | vcopyX8C (o : Copy)
  | vcopyX8D (o : Copy)
  | vcopyX8E (o : Copy)
  | vcopyX8F (o : Copy)
  | vcopyX90 (o : Copy)
  | vcopyX91 (o : Copy)
  | vcopyX92 (o : Copy)
  | vcopyX93 (o : Copy)
  | vcopyX94 (o : Copy)
  | vcopyX95 (o : Copy)
  | vcopyX96 (o : Copy)
  | vcopyX97 (o : Copy)
  | vcopyX98 (o : Copy)
  | vcopyX99 (o : Copy)
  | vcopyX9A (o : Copy)
  | vcopyX9B (o : Copy)
  | vcopyX9C (o : Copy)
  | vcopyX9D (o : Copy)
  | vcopyX9E (o : Copy)
  | vcopyX9F (o : Copy)
  | imgin (o : Xfer)
  | imginXA1 (o : Xfer)
  | imginXA2 (o : Xfer)
  | imginXA3 (o : Xfer)
  | imginXA4 (o : Xfer)
  | imginXA5 (o : Xfer)
  | imginXA6 (o : Xfer)
  | imginXA7 (o : Xfer)
  | imginXA8 (o : Xfer)
  | imginXA9 (o : Xfer)
  | imginXAA (o : Xfer)
  | imginXAB (o : Xfer)
  | imginXAC (o : Xfer)
  | imginXAD (o : Xfer)
  | imginXAE (o : Xfer)
  | imginXAF (o : Xfer)
  | imginXB0 (o : Xfer)
  | imginXB1 (o : Xfer)
  | imginXB2 (o : Xfer)
  | imginXB3 (o : Xfer)
  | imginXB4 (o : Xfer)
  | imginXB5 (o : Xfer)
  | imginXB6 (o : Xfer)
  | imginXB7 (o : Xfer)
  | imginXB8 (o : Xfer)
  | imginXB9 (o : Xfer)
  | imginXBA (o : Xfer)
  | imginXBB (o : Xfer)
  | imginXBC (o : Xfer)
  | imginXBD (o : Xfer)
  | imginXBE (o : Xfer)
  | imginXBF (o : Xfer)
  | imgout (o : Xfer)
  | imgoutXC1 (o : Xfer)
  | imgoutXC2 (o : Xfer)
  | imgoutXC3 (o : Xfer)
  | imgoutXC4 (o : Xfer)
  | imgoutXC5 (o : Xfer)
  | imgoutXC6 (o : Xfer)
  | imgoutXC7 (o : Xfer)
  | imgoutXC8 (o : Xfer)
  | imgoutXC9 (o : Xfer)
  | imgoutXCA (o : Xfer)
  | imgoutXCB (o : Xfer)
  | imgoutXCC (o : Xfer)
  | imgoutXCD (o : Xfer)
  | imgoutXCE (o : Xfer)
  | imgoutXCF (o : Xfer)
  | imgoutXD0 (o : Xfer)
  | imgoutXD1 (o : Xfer)
  | imgoutXD2 (o : Xfer)
  | imgoutXD3 (o : Xfer)
  | imgoutXD4 (o : Xfer)
  | imgoutXD5 (o : Xfer)
  | imgoutXD6 (o : Xfer)
  | imgoutXD7 (o : Xfer)
  | imgoutXD8 (o : Xfer)
  | imgoutXD9 (o : Xfer)
  | imgoutXDA (o : Xfer)
  | imgoutXDB (o : Xfer)
  | imgoutXDC (o : Xfer)
  | imgoutXDD (o : Xfer)
  | imgoutXDE (o : Xfer)
  | imgoutXDF (o : Xfer)
  | setmode (o : SetMode)
  | settw (o : SetTw)
  | setclip1 (o : SetClip)
  | setclip2 (o : SetClip)
  | setofs (o : SetOfs)
  | setmask (o : SetMask)
  | g1Dispen (o : DispEn)
  | g1Dmadir (o : DmaDir)
  | g1Origin (o : Origin)
  | g1Hrange (o : HRange)
  | g1Vrange (o : VRange)
  | g1Mode (o : Mode)
  | g1Info (o : Info)
  | g1InfoX11 (o : Info)
  | g1InfoX12 (o : Info)
  | g1InfoX13 (o : Info)
  | g1InfoX14 (o : Info)
  | g1InfoX15 (o : Info)
  | g1InfoX16 (o : Info)
  | g1InfoX17 (o : Info)
  | g1InfoX18 (o : Info)
  | g1InfoX19 (o : Info)
  | g1InfoX1A (o : Info)
  | g1InfoX1B (o : Info)
  | g1InfoX1C (o : Info)
  | g1InfoX1D (o : Info)
  | g1InfoX1E (o : Info)
  | g1InfoX1F (o : Info)
  | nop
  | flush
  | rsvd03
  | rsvd04
  | rsvd05
  | rsvd06
  | rsvd07
  | rsvd08
  | rsvd09
  | rsvd0A
  | rsvd0B
  | rsvd0C
  | rsvd0D
  | rsvd0E
  | rsvd0F
  | rsvd10
  | rsvd11
  | rsvd12
  | rsvd13
  | rsvd14
  | rsvd15
  | rsvd16
  | rsvd17
  | rsvd18
  | rsvd19
  | rsvd1A
  | rsvd1B
  | rsvd1C
  | rsvd1D
  | rsvd1E
  | rsvd1F
  | rsvdE0
  | rsvdE7
  | rsvdE8
  | rsvdE9
  | rsvdEA
  | rsvdEB
  | rsvdEC
  | rsvdED
  | rsvdEE
  | rsvdEF
  | rsvdF0
  | rsvdF1
  | rsvdF2
  | rsvdF3
  | rsvdF4
  | rsvdF5
  | rsvdF6
  | rsvdF7
  | rsvdF8
  | rsvdF9
  | rsvdFA
  | rsvdFB
  | rsvdFC
  | rsvdFD
  | rsvdFE
  | rsvdFF
  | g1Reset
  | g1Abort
  | g1Ack
  | g1Rsvd09
  | g1Rsvd0A
  | g1Rsvd0B
  | g1Rsvd0C
  | g1Rsvd0D
  | g1Rsvd0E
  | g1Rsvd0F
  | g1Rsvd20
  | g1Rsvd21
  | g1Rsvd22
  | g1Rsvd23
  | g1Rsvd24
  | g1Rsvd25
  | g1Rsvd26
  | g1Rsvd27
  | g1Rsvd28
  | g1Rsvd29
  | g1Rsvd2A
  | g1Rsvd2B
  | g1Rsvd2C
  | g1Rsvd2D
  | g1Rsvd2E
  | g1Rsvd2F
  | g1Rsvd30
  | g1Rsvd31
  | g1Rsvd32
  | g1Rsvd33
  | g1Rsvd34
  | g1Rsvd35
  | g1Rsvd36
  | g1Rsvd37
  | g1Rsvd38
  | g1Rsvd39
  | g1Rsvd3A
  | g1Rsvd3B
  | g1Rsvd3C
  | g1Rsvd3D
  | g1Rsvd3E
  | g1Rsvd3F
  deriving DecidableEq, Repr

end Sys2Proof
end

