-- ==== Sys2Proof/WellFormed.lean ====
section
/-! DEFINITION. Well-formed instructions: those whose operands an encoding can express (R123 to R125).
Every other operand is a bit field of its encoding's exact width and cannot be ill-formed. -/

namespace Sys2Proof

/-- FILL: `x` is a multiple of 16 below 1024, `w` a multiple of 16 up to 1024 (R123). -/
def Fill.wf (o : Fill) : Bool :=
  o.x % 16 == 0 && decide (o.x < 1024) && (o.w % 16 == 0 && decide (o.w ≤ 1024))

/-- A transfer's size: `w` is 1 to 1024, `h` 1 to 512 (R124). -/
def sizeWf (w h : Nat) : Bool :=
  decide (1 ≤ w) && decide (w ≤ 1024) && (decide (1 ≤ h) && decide (h ≤ 512))

/-- The operands an encoding can express. -/
def Operands.wf : Operands → Bool
  | .none => true
  | .fill o => o.wf
  | .flatTri _ => true
  | .flatTriTex _ => true
  | .flatQuad _ => true
  | .flatQuadTex _ => true
  | .gourTri _ => true
  | .gourTriTex _ => true
  | .gourQuad _ => true
  | .gourQuadTex _ => true
  | .flatLine _ => true
  | .gourLine _ => true
  | .rectVar _ => true
  | .rectVarTex _ => true
  | .rectFix _ => true
  | .rectFixTex _ => true
  | .copy o => sizeWf o.w o.h
  | .xfer o => sizeWf o.w o.h
  | .setMode _ => true
  | .setTw _ => true
  | .setClip _ => true
  | .setOfs _ => true
  | .setMask _ => true
  | .dispEn _ => true
  | .dmaDir _ => true
  | .origin _ => true
  | .hRange _ => true
  | .vRange _ => true
  | .mode _ => true
  | .info _ => true

/-- The operands of an instruction. -/
def Instr.operands : Instr → Operands
  | .nop => .none
  | .flush => .none
  | .fill o => .fill o
  | .rsvd03 => .none
  | .rsvd04 => .none
  | .rsvd05 => .none
  | .rsvd06 => .none
  | .rsvd07 => .none
  | .rsvd08 => .none
  | .rsvd09 => .none
  | .rsvd0A => .none
  | .rsvd0B => .none
  | .rsvd0C => .none
  | .rsvd0D => .none
  | .rsvd0E => .none
  | .rsvd0F => .none
  | .rsvd10 => .none
  | .rsvd11 => .none
  | .rsvd12 => .none
  | .rsvd13 => .none
  | .rsvd14 => .none
  | .rsvd15 => .none
  | .rsvd16 => .none
  | .rsvd17 => .none
  | .rsvd18 => .none
  | .rsvd19 => .none
  | .rsvd1A => .none
  | .rsvd1B => .none
  | .rsvd1C => .none
  | .rsvd1D => .none
  | .rsvd1E => .none
  | .rsvd1F => .none
  | .polyF3 o => .flatTri o
  | .polyF3R o => .flatTri o
  | .polyF3S o => .flatTri o
  | .polyF3SR o => .flatTri o
  | .polyF3T o => .flatTriTex o
  | .polyF3TR o => .flatTriTex o
  | .polyF3TS o => .flatTriTex o
  | .polyF3TSR o => .flatTriTex o
  | .polyF4 o => .flatQuad o
  | .polyF4R o => .flatQuad o
  | .polyF4S o => .flatQuad o
  | .polyF4SR o => .flatQuad o
  | .polyF4T o => .flatQuadTex o
  | .polyF4TR o => .flatQuadTex o
  | .polyF4TS o => .flatQuadTex o
  | .polyF4TSR o => .flatQuadTex o
  | .polyG3 o => .gourTri o
  | .polyG3R o => .gourTri o
  | .polyG3S o => .gourTri o
  | .polyG3SR o => .gourTri o
  | .polyG3T o => .gourTriTex o
  | .polyG3TR o => .gourTriTex o
  | .polyG3TS o => .gourTriTex o
  | .polyG3TSR o => .gourTriTex o
  | .polyG4 o => .gourQuad o
  | .polyG4R o => .gourQuad o
  | .polyG4S o => .gourQuad o
  | .polyG4SR o => .gourQuad o
  | .polyG4T o => .gourQuadTex o
  | .polyG4TR o => .gourQuadTex o
  | .polyG4TS o => .gourQuadTex o
  | .polyG4TSR o => .gourQuadTex o
  | .lineF o => .flatLine o
  | .lineFX41 o => .flatLine o
  | .lineFS o => .flatLine o
  | .lineFSX43 o => .flatLine o
  | .lineFX44 o => .flatLine o
  | .lineFX45 o => .flatLine o
  | .lineFSX46 o => .flatLine o
  | .lineFSX47 o => .flatLine o
  | .plineF o => .flatLine o
  | .plineFX49 o => .flatLine o
  | .plineFS o => .flatLine o
  | .plineFSX4B o => .flatLine o
  | .plineFX4C o => .flatLine o
  | .plineFX4D o => .flatLine o
  | .plineFSX4E o => .flatLine o
  | .plineFSX4F o => .flatLine o
  | .lineG o => .gourLine o
  | .lineGX51 o => .gourLine o
  | .lineGS o => .gourLine o
  | .lineGSX53 o => .gourLine o
  | .lineGX54 o => .gourLine o
  | .lineGX55 o => .gourLine o
  | .lineGSX56 o => .gourLine o
  | .lineGSX57 o => .gourLine o
  | .plineG o => .gourLine o
  | .plineGX59 o => .gourLine o
  | .plineGS o => .gourLine o
  | .plineGSX5B o => .gourLine o
  | .plineGX5C o => .gourLine o
  | .plineGX5D o => .gourLine o
  | .plineGSX5E o => .gourLine o
  | .plineGSX5F o => .gourLine o
  | .rectV o => .rectVar o
  | .rectVR o => .rectVar o
  | .rectVS o => .rectVar o
  | .rectVSR o => .rectVar o
  | .rectVT o => .rectVarTex o
  | .rectVTR o => .rectVarTex o
  | .rectVTS o => .rectVarTex o
  | .rectVTSR o => .rectVarTex o
  | .rect1 o => .rectFix o
  | .rect1R o => .rectFix o
  | .rect1S o => .rectFix o
  | .rect1SR o => .rectFix o
  | .rect1T o => .rectFixTex o
  | .rect1TR o => .rectFixTex o
  | .rect1TS o => .rectFixTex o
  | .rect1TSR o => .rectFixTex o
  | .rect8 o => .rectFix o
  | .rect8R o => .rectFix o
  | .rect8S o => .rectFix o
  | .rect8SR o => .rectFix o
  | .rect8T o => .rectFixTex o
  | .rect8TR o => .rectFixTex o
  | .rect8TS o => .rectFixTex o
  | .rect8TSR o => .rectFixTex o
  | .rect16 o => .rectFix o
  | .rect16R o => .rectFix o
  | .rect16S o => .rectFix o
  | .rect16SR o => .rectFix o
  | .rect16T o => .rectFixTex o
  | .rect16TR o => .rectFixTex o
  | .rect16TS o => .rectFixTex o
  | .rect16TSR o => .rectFixTex o
  | .vcopy o => .copy o
  | .vcopyX81 o => .copy o
  | .vcopyX82 o => .copy o
  | .vcopyX83 o => .copy o
  | .vcopyX84 o => .copy o
  | .vcopyX85 o => .copy o
  | .vcopyX86 o => .copy o
  | .vcopyX87 o => .copy o
  | .vcopyX88 o => .copy o
  | .vcopyX89 o => .copy o
  | .vcopyX8A o => .copy o
  | .vcopyX8B o => .copy o
  | .vcopyX8C o => .copy o
  | .vcopyX8D o => .copy o
  | .vcopyX8E o => .copy o
  | .vcopyX8F o => .copy o
  | .vcopyX90 o => .copy o
  | .vcopyX91 o => .copy o
  | .vcopyX92 o => .copy o
  | .vcopyX93 o => .copy o
  | .vcopyX94 o => .copy o
  | .vcopyX95 o => .copy o
  | .vcopyX96 o => .copy o
  | .vcopyX97 o => .copy o
  | .vcopyX98 o => .copy o
  | .vcopyX99 o => .copy o
  | .vcopyX9A o => .copy o
  | .vcopyX9B o => .copy o
  | .vcopyX9C o => .copy o
  | .vcopyX9D o => .copy o
  | .vcopyX9E o => .copy o
  | .vcopyX9F o => .copy o
  | .imgin o => .xfer o
  | .imginXA1 o => .xfer o
  | .imginXA2 o => .xfer o
  | .imginXA3 o => .xfer o
  | .imginXA4 o => .xfer o
  | .imginXA5 o => .xfer o
  | .imginXA6 o => .xfer o
  | .imginXA7 o => .xfer o
  | .imginXA8 o => .xfer o
  | .imginXA9 o => .xfer o
  | .imginXAA o => .xfer o
  | .imginXAB o => .xfer o
  | .imginXAC o => .xfer o
  | .imginXAD o => .xfer o
  | .imginXAE o => .xfer o
  | .imginXAF o => .xfer o
  | .imginXB0 o => .xfer o
  | .imginXB1 o => .xfer o
  | .imginXB2 o => .xfer o
  | .imginXB3 o => .xfer o
  | .imginXB4 o => .xfer o
  | .imginXB5 o => .xfer o
  | .imginXB6 o => .xfer o
  | .imginXB7 o => .xfer o
  | .imginXB8 o => .xfer o
  | .imginXB9 o => .xfer o
  | .imginXBA o => .xfer o
  | .imginXBB o => .xfer o
  | .imginXBC o => .xfer o
  | .imginXBD o => .xfer o
  | .imginXBE o => .xfer o
  | .imginXBF o => .xfer o
  | .imgout o => .xfer o
  | .imgoutXC1 o => .xfer o
  | .imgoutXC2 o => .xfer o
  | .imgoutXC3 o => .xfer o
  | .imgoutXC4 o => .xfer o
  | .imgoutXC5 o => .xfer o
  | .imgoutXC6 o => .xfer o
  | .imgoutXC7 o => .xfer o
  | .imgoutXC8 o => .xfer o
  | .imgoutXC9 o => .xfer o
  | .imgoutXCA o => .xfer o
  | .imgoutXCB o => .xfer o
  | .imgoutXCC o => .xfer o
  | .imgoutXCD o => .xfer o
  | .imgoutXCE o => .xfer o
  | .imgoutXCF o => .xfer o
  | .imgoutXD0 o => .xfer o
  | .imgoutXD1 o => .xfer o
  | .imgoutXD2 o => .xfer o
  | .imgoutXD3 o => .xfer o
  | .imgoutXD4 o => .xfer o
  | .imgoutXD5 o => .xfer o
  | .imgoutXD6 o => .xfer o
  | .imgoutXD7 o => .xfer o
  | .imgoutXD8 o => .xfer o
  | .imgoutXD9 o => .xfer o
  | .imgoutXDA o => .xfer o
  | .imgoutXDB o => .xfer o
  | .imgoutXDC o => .xfer o
  | .imgoutXDD o => .xfer o
  | .imgoutXDE o => .xfer o
  | .imgoutXDF o => .xfer o
  | .rsvdE0 => .none
  | .setmode o => .setMode o
  | .settw o => .setTw o
  | .setclip1 o => .setClip o
  | .setclip2 o => .setClip o
  | .setofs o => .setOfs o
  | .setmask o => .setMask o
  | .rsvdE7 => .none
  | .rsvdE8 => .none
  | .rsvdE9 => .none
  | .rsvdEA => .none
  | .rsvdEB => .none
  | .rsvdEC => .none
  | .rsvdED => .none
  | .rsvdEE => .none
  | .rsvdEF => .none
  | .rsvdF0 => .none
  | .rsvdF1 => .none
  | .rsvdF2 => .none
  | .rsvdF3 => .none
  | .rsvdF4 => .none
  | .rsvdF5 => .none
  | .rsvdF6 => .none
  | .rsvdF7 => .none
  | .rsvdF8 => .none
  | .rsvdF9 => .none
  | .rsvdFA => .none
  | .rsvdFB => .none
  | .rsvdFC => .none
  | .rsvdFD => .none
  | .rsvdFE => .none
  | .rsvdFF => .none
  | .g1Reset => .none
  | .g1Abort => .none
  | .g1Ack => .none
  | .g1Dispen o => .dispEn o
  | .g1Dmadir o => .dmaDir o
  | .g1Origin o => .origin o
  | .g1Hrange o => .hRange o
  | .g1Vrange o => .vRange o
  | .g1Mode o => .mode o
  | .g1Rsvd09 => .none
  | .g1Rsvd0A => .none
  | .g1Rsvd0B => .none
  | .g1Rsvd0C => .none
  | .g1Rsvd0D => .none
  | .g1Rsvd0E => .none
  | .g1Rsvd0F => .none
  | .g1Info o => .info o
  | .g1InfoX11 o => .info o
  | .g1InfoX12 o => .info o
  | .g1InfoX13 o => .info o
  | .g1InfoX14 o => .info o
  | .g1InfoX15 o => .info o
  | .g1InfoX16 o => .info o
  | .g1InfoX17 o => .info o
  | .g1InfoX18 o => .info o
  | .g1InfoX19 o => .info o
  | .g1InfoX1A o => .info o
  | .g1InfoX1B o => .info o
  | .g1InfoX1C o => .info o
  | .g1InfoX1D o => .info o
  | .g1InfoX1E o => .info o
  | .g1InfoX1F o => .info o
  | .g1Rsvd20 => .none
  | .g1Rsvd21 => .none
  | .g1Rsvd22 => .none
  | .g1Rsvd23 => .none
  | .g1Rsvd24 => .none
  | .g1Rsvd25 => .none
  | .g1Rsvd26 => .none
  | .g1Rsvd27 => .none
  | .g1Rsvd28 => .none
  | .g1Rsvd29 => .none
  | .g1Rsvd2A => .none
  | .g1Rsvd2B => .none
  | .g1Rsvd2C => .none
  | .g1Rsvd2D => .none
  | .g1Rsvd2E => .none
  | .g1Rsvd2F => .none
  | .g1Rsvd30 => .none
  | .g1Rsvd31 => .none
  | .g1Rsvd32 => .none
  | .g1Rsvd33 => .none
  | .g1Rsvd34 => .none
  | .g1Rsvd35 => .none
  | .g1Rsvd36 => .none
  | .g1Rsvd37 => .none
  | .g1Rsvd38 => .none
  | .g1Rsvd39 => .none
  | .g1Rsvd3A => .none
  | .g1Rsvd3B => .none
  | .g1Rsvd3C => .none
  | .g1Rsvd3D => .none
  | .g1Rsvd3E => .none
  | .g1Rsvd3F => .none

/-- An instruction whose operands an encoding can express. -/
def Instr.wf (i : Instr) : Bool := i.operands.wf

end Sys2Proof
end

