-- ==== Sys2Proof/Decode.lean ====
section
/-! DEFINITION. Decoding the command words of spec/30_encoding.md, total on any words, and the encoder
that writes them back. Bit fields, sizes and byte order are defined here once. -/

namespace Sys2Proof

/-! ## Bit fields (R8, R113) -/

/-- The `n` bits of `w` from bit `lo` up, `w[lo+n-1:lo]` (R8). -/
def field (w : Word) (lo n : Nat) : BitVec n := w.extractLsb' lo n

/-- Bit `i` of `w` (R8). -/
def flagBit (w : Word) (i : Nat) : Bool := w.getLsbD i

/-- Word `i` of a command; a word that is not there reads 0 (the decoder checks the length first). -/
def wordAt (ws : List Word) (i : Nat) : Word := ws.getD i 0#32

/-- One bit as a bit vector. -/
def bit (b : Bool) : BitVec 1 := BitVec.ofBool b

/-- `((v - 1) & (m - 1)) + 1` for `m` a power of two: 0 means the maximum `m` (R124). -/
def sizeField (m v : Nat) : Nat := (v + (m - 1)) % m + 1

/-- `v & 0x3F0` of a 10-bit `v`: rounded down to a multiple of 16 (R123). -/
def fillX (v : Nat) : Nat := v / 16 * 16

/-- `(v + 15) & 0x7F0` of a 10-bit `v`: rounded up to a multiple of 16 (R123). -/
def fillW (v : Nat) : Nat := (v + 15) / 16 * 16

/-! ## The words of one command, read -/

/-- The opcode of a GP0 command, `w[31:24]` (R110). -/
def opcodeOf (w : Word) : BitVec 8 := field w 24 8

/-- The opcode of a GP1 command, `w[29:24]`; bits 31:30 are ignored (R110, R127). -/
def gp1OpcodeOf (w : Word) : BitVec 6 := field w 24 6

/-- A `CMDCOL` or `COL` word's colour (R114). -/
def Rgb.ofWord (w : Word) : Rgb := ⟨field w 0 8, field w 8 8, field w 16 8⟩

/-- A `VTX` word; bits 15:11 and 31:27 are ignored (R115). -/
def Vtx.ofWord (w : Word) : Vtx := ⟨field w 0 11, field w 16 11⟩

/-- A `TEX` word's lower half (R116). -/
def Uv.ofWord (w : Word) : Uv := ⟨field w 0 8, field w 8 8⟩

/-- The CLUT selector in a `TEX` word's upper half; its bit 15 is ignored (R117). -/
def ClutSel.ofWord (w : Word) : ClutSel := ⟨field w 16 6, field w 22 9⟩

/-- The page attribute in a `TEX` word's upper half; its bits 15:9 are ignored (R118). -/
def PageAttr.ofTex (w : Word) : PageAttr := ⟨field w 16 4, field w 20 1, field w 21 2, field w 23 2⟩

/-- The page attribute in bits 8:0, where E1 has it (R126). -/
def PageAttr.ofMode (w : Word) : PageAttr := ⟨field w 0 4, field w 4 1, field w 5 2, field w 7 2⟩

/-- The operands of `FlatTri` from the command's words. -/
def FlatTri.ofWords (ws : List Word) : FlatTri :=
  { c0 := .ofWord (wordAt ws 0),
    v0 := .ofWord (wordAt ws 1),
    v1 := .ofWord (wordAt ws 2),
    v2 := .ofWord (wordAt ws 3) }

/-- The operands of `FlatTriTex` from the command's words. -/
def FlatTriTex.ofWords (ws : List Word) : FlatTriTex :=
  { c0 := .ofWord (wordAt ws 0),
    v0 := .ofWord (wordAt ws 1),
    t0 := .ofWord (wordAt ws 2),
    clut := .ofWord (wordAt ws 2),
    v1 := .ofWord (wordAt ws 3),
    t1 := .ofWord (wordAt ws 4),
    page := .ofTex (wordAt ws 4),
    v2 := .ofWord (wordAt ws 5),
    t2 := .ofWord (wordAt ws 6) }

/-- The operands of `FlatQuad` from the command's words. -/
def FlatQuad.ofWords (ws : List Word) : FlatQuad :=
  { c0 := .ofWord (wordAt ws 0),
    v0 := .ofWord (wordAt ws 1),
    v1 := .ofWord (wordAt ws 2),
    v2 := .ofWord (wordAt ws 3),
    v3 := .ofWord (wordAt ws 4) }

/-- The operands of `FlatQuadTex` from the command's words. -/
def FlatQuadTex.ofWords (ws : List Word) : FlatQuadTex :=
  { c0 := .ofWord (wordAt ws 0),
    v0 := .ofWord (wordAt ws 1),
    t0 := .ofWord (wordAt ws 2),
    clut := .ofWord (wordAt ws 2),
    v1 := .ofWord (wordAt ws 3),
    t1 := .ofWord (wordAt ws 4),
    page := .ofTex (wordAt ws 4),
    v2 := .ofWord (wordAt ws 5),
    t2 := .ofWord (wordAt ws 6),
    v3 := .ofWord (wordAt ws 7),
    t3 := .ofWord (wordAt ws 8) }

/-- The operands of `GourTri` from the command's words. -/
def GourTri.ofWords (ws : List Word) : GourTri :=
  { c0 := .ofWord (wordAt ws 0),
    v0 := .ofWord (wordAt ws 1),
    c1 := .ofWord (wordAt ws 2),
    v1 := .ofWord (wordAt ws 3),
    c2 := .ofWord (wordAt ws 4),
    v2 := .ofWord (wordAt ws 5) }

/-- The operands of `GourTriTex` from the command's words. -/
def GourTriTex.ofWords (ws : List Word) : GourTriTex :=
  { c0 := .ofWord (wordAt ws 0),
    v0 := .ofWord (wordAt ws 1),
    t0 := .ofWord (wordAt ws 2),
    clut := .ofWord (wordAt ws 2),
    c1 := .ofWord (wordAt ws 3),
    v1 := .ofWord (wordAt ws 4),
    t1 := .ofWord (wordAt ws 5),
    page := .ofTex (wordAt ws 5),
    c2 := .ofWord (wordAt ws 6),
    v2 := .ofWord (wordAt ws 7),
    t2 := .ofWord (wordAt ws 8) }

/-- The operands of `GourQuad` from the command's words. -/
def GourQuad.ofWords (ws : List Word) : GourQuad :=
  { c0 := .ofWord (wordAt ws 0),
    v0 := .ofWord (wordAt ws 1),
    c1 := .ofWord (wordAt ws 2),
    v1 := .ofWord (wordAt ws 3),
    c2 := .ofWord (wordAt ws 4),
    v2 := .ofWord (wordAt ws 5),
    c3 := .ofWord (wordAt ws 6),
    v3 := .ofWord (wordAt ws 7) }

/-- The operands of `GourQuadTex` from the command's words. -/
def GourQuadTex.ofWords (ws : List Word) : GourQuadTex :=
  { c0 := .ofWord (wordAt ws 0),
    v0 := .ofWord (wordAt ws 1),
    t0 := .ofWord (wordAt ws 2),
    clut := .ofWord (wordAt ws 2),
    c1 := .ofWord (wordAt ws 3),
    v1 := .ofWord (wordAt ws 4),
    t1 := .ofWord (wordAt ws 5),
    page := .ofTex (wordAt ws 5),
    c2 := .ofWord (wordAt ws 6),
    v2 := .ofWord (wordAt ws 7),
    t2 := .ofWord (wordAt ws 8),
    c3 := .ofWord (wordAt ws 9),
    v3 := .ofWord (wordAt ws 10),
    t3 := .ofWord (wordAt ws 11) }

/-- The operands of `FlatLine` from the command's words. -/
def FlatLine.ofWords (ws : List Word) : FlatLine :=
  { c0 := .ofWord (wordAt ws 0),
    v0 := .ofWord (wordAt ws 1),
    v1 := .ofWord (wordAt ws 2) }

/-- The operands of `GourLine` from the command's words. -/
def GourLine.ofWords (ws : List Word) : GourLine :=
  { c0 := .ofWord (wordAt ws 0),
    v0 := .ofWord (wordAt ws 1),
    c1 := .ofWord (wordAt ws 2),
    v1 := .ofWord (wordAt ws 3) }

/-- The operands of `RectVar` from the command's words. -/
def RectVar.ofWords (ws : List Word) : RectVar :=
  { c0 := .ofWord (wordAt ws 0),
    v0 := .ofWord (wordAt ws 1),
    w := field (wordAt ws 2) 0 10,
    h := field (wordAt ws 2) 16 9 }

/-- The operands of `RectVarTex` from the command's words. -/
def RectVarTex.ofWords (ws : List Word) : RectVarTex :=
  { c0 := .ofWord (wordAt ws 0),
    v0 := .ofWord (wordAt ws 1),
    t0 := .ofWord (wordAt ws 2),
    clut := .ofWord (wordAt ws 2),
    w := field (wordAt ws 3) 0 10,
    h := field (wordAt ws 3) 16 9 }

/-- The operands of `RectFix` from the command's words. -/
def RectFix.ofWords (ws : List Word) : RectFix :=
  { c0 := .ofWord (wordAt ws 0),
    v0 := .ofWord (wordAt ws 1) }

/-- The operands of `RectFixTex` from the command's words. -/
def RectFixTex.ofWords (ws : List Word) : RectFixTex :=
  { c0 := .ofWord (wordAt ws 0),
    v0 := .ofWord (wordAt ws 1),
    t0 := .ofWord (wordAt ws 2),
    clut := .ofWord (wordAt ws 2) }

/-- FILL's operands (R123). -/
def Fill.ofWords (ws : List Word) : Fill :=
  { c0 := .ofWord (wordAt ws 0),
    x := fillX (field (wordAt ws 1) 0 10).toNat,
    y := field (wordAt ws 1) 16 9,
    w := fillW (field (wordAt ws 2) 0 10).toNat,
    h := field (wordAt ws 2) 16 9 }

/-- VCOPY's operands (R124). -/
def Copy.ofWords (ws : List Word) : Copy :=
  { sx := field (wordAt ws 1) 0 10,
    sy := field (wordAt ws 1) 16 9,
    dx := field (wordAt ws 2) 0 10,
    dy := field (wordAt ws 2) 16 9,
    w := sizeField 1024 (field (wordAt ws 3) 0 16).toNat,
    h := sizeField 512 (field (wordAt ws 3) 16 16).toNat }

/-- An image transfer's operands (R125). -/
def Xfer.ofWords (ws : List Word) : Xfer :=
  { x := field (wordAt ws 1) 0 10,
    y := field (wordAt ws 1) 16 9,
    w := sizeField 1024 (field (wordAt ws 2) 0 16).toNat,
    h := sizeField 512 (field (wordAt ws 2) 16 16).toNat }

/-- E1's parameter (R126). -/
def SetMode.ofWord (w : Word) : SetMode := ⟨.ofMode w, flagBit w 9, flagBit w 10⟩

/-- E2's parameter (R126). -/
def SetTw.ofWord (w : Word) : SetTw := ⟨field w 0 5, field w 5 5, field w 10 5, field w 15 5⟩

/-- E3's and E4's parameter (R126). -/
def SetClip.ofWord (w : Word) : SetClip := ⟨field w 0 10, field w 10 9⟩

/-- E5's parameter (R126). -/
def SetOfs.ofWord (w : Word) : SetOfs := ⟨field w 0 11, field w 11 11⟩

/-- E6's parameter (R126). -/
def SetMask.ofWord (w : Word) : SetMask := ⟨flagBit w 0, flagBit w 1⟩

/-- GP1 03's parameter (R127). -/
def DispEn.ofWord (w : Word) : DispEn := ⟨flagBit w 0⟩

/-- GP1 04's parameter (R127). -/
def DmaDir.ofWord (w : Word) : DmaDir := ⟨field w 0 2⟩

/-- GP1 05's parameter (R127). -/
def Origin.ofWord (w : Word) : Origin := ⟨field w 0 10, field w 10 9⟩

/-- GP1 06's parameter (R127). -/
def HRange.ofWord (w : Word) : HRange := ⟨field w 0 12, field w 12 12⟩

/-- GP1 07's parameter (R127). -/
def VRange.ofWord (w : Word) : VRange := ⟨field w 0 10, field w 10 10⟩

/-- GP1 08's parameter (R127). -/
def Mode.ofWord (w : Word) : Mode :=
  ⟨field w 0 2, flagBit w 2, flagBit w 3, flagBit w 4, flagBit w 5, flagBit w 6, flagBit w 7⟩

/-- GP1 10 to 1F's parameter (R127). -/
def Info.ofWord (w : Word) : Info := ⟨field w 0 3⟩

/-! ## The length table (R111) -/

/-- Rows 0x and 1x of the length table (R111). -/
def lenClass0 : List Nat :=
  [1, 1, 3, 1, 1, 1, 1, 1, 1, 1, 1, 1, 1, 1, 1, 1,
   1, 1, 1, 1, 1, 1, 1, 1, 1, 1, 1, 1, 1, 1, 1, 1]

/-- Rows 2x and 3x: polygons (R111). -/
def lenClass1 : List Nat :=
  [4, 4, 4, 4, 7, 7, 7, 7, 5, 5, 5, 5, 9, 9, 9, 9,
   6, 6, 6, 6, 9, 9, 9, 9, 8, 8, 8, 8, 12, 12, 12, 12]

/-- Rows 4x and 5x: lines (R111). -/
def lenClass2 : List Nat :=
  [3, 3, 3, 3, 3, 3, 3, 3, 3, 3, 3, 3, 3, 3, 3, 3,
   4, 4, 4, 4, 4, 4, 4, 4, 4, 4, 4, 4, 4, 4, 4, 4]

/-- Rows 6x and 7x: rectangles (R111). -/
def lenClass3 : List Nat :=
  [3, 3, 3, 3, 4, 4, 4, 4, 2, 2, 2, 2, 3, 3, 3, 3,
   2, 2, 2, 2, 3, 3, 3, 3, 2, 2, 2, 2, 3, 3, 3, 3]

/-- The class of an opcode, `op[7:5]` (R128). -/
def opClass (op : BitVec 8) : Nat := op.toNat / 32

/-- The variant of an opcode inside its class, `op[4:0]` (R128). -/
def opVariant (op : BitVec 8) : Nat := op.toNat % 32

/-- `LEN[op]`: the total number of words of the command, the opcode word included (R111). -/
def opLen (op : BitVec 8) : Nat :=
  match opClass op with
  | 0 => lenClass0.getD (opVariant op) 1
  | 1 => lenClass1.getD (opVariant op) 1
  | 2 => lenClass2.getD (opVariant op) 1
  | 3 => lenClass3.getD (opVariant op) 1
  | 4 => 4
  | 5 => 3
  | 6 => 3
  | _ => 1

/-! ## Decoding by class (R128, R133) -/

/-- The commands of NOP, FLUSH, FILL and reserved (R128, class 000), by `op[4:0]`. -/
def decodeMisc (v : Nat) (ws : List Word) : Instr :=
  match v with
  | 0 => .nop
  | 1 => .flush
  | 2 => .fill (.ofWords ws)
  | 3 => .rsvd03
  | 4 => .rsvd04
  | 5 => .rsvd05
  | 6 => .rsvd06
  | 7 => .rsvd07
  | 8 => .rsvd08
  | 9 => .rsvd09
  | 10 => .rsvd0A
  | 11 => .rsvd0B
  | 12 => .rsvd0C
  | 13 => .rsvd0D
  | 14 => .rsvd0E
  | 15 => .rsvd0F
  | 16 => .rsvd10
  | 17 => .rsvd11
  | 18 => .rsvd12
  | 19 => .rsvd13
  | 20 => .rsvd14
  | 21 => .rsvd15
  | 22 => .rsvd16
  | 23 => .rsvd17
  | 24 => .rsvd18
  | 25 => .rsvd19
  | 26 => .rsvd1A
  | 27 => .rsvd1B
  | 28 => .rsvd1C
  | 29 => .rsvd1D
  | 30 => .rsvd1E
  | _ => .rsvd1F

/-- The commands of polygons (R119, class 001), by `op[4:0]`. -/
def decodePolygon (v : Nat) (ws : List Word) : Instr :=
  match v with
  | 0 => .polyF3 (.ofWords ws)
  | 1 => .polyF3R (.ofWords ws)
  | 2 => .polyF3S (.ofWords ws)
  | 3 => .polyF3SR (.ofWords ws)
  | 4 => .polyF3T (.ofWords ws)
  | 5 => .polyF3TR (.ofWords ws)
  | 6 => .polyF3TS (.ofWords ws)
  | 7 => .polyF3TSR (.ofWords ws)
  | 8 => .polyF4 (.ofWords ws)
  | 9 => .polyF4R (.ofWords ws)
  | 10 => .polyF4S (.ofWords ws)
  | 11 => .polyF4SR (.ofWords ws)
  | 12 => .polyF4T (.ofWords ws)
  | 13 => .polyF4TR (.ofWords ws)
  | 14 => .polyF4TS (.ofWords ws)
  | 15 => .polyF4TSR (.ofWords ws)
  | 16 => .polyG3 (.ofWords ws)
  | 17 => .polyG3R (.ofWords ws)
  | 18 => .polyG3S (.ofWords ws)
  | 19 => .polyG3SR (.ofWords ws)
  | 20 => .polyG3T (.ofWords ws)
  | 21 => .polyG3TR (.ofWords ws)
  | 22 => .polyG3TS (.ofWords ws)
  | 23 => .polyG3TSR (.ofWords ws)
  | 24 => .polyG4 (.ofWords ws)
  | 25 => .polyG4R (.ofWords ws)
  | 26 => .polyG4S (.ofWords ws)
  | 27 => .polyG4SR (.ofWords ws)
  | 28 => .polyG4T (.ofWords ws)
  | 29 => .polyG4TR (.ofWords ws)
  | 30 => .polyG4TS (.ofWords ws)
  | _ => .polyG4TSR (.ofWords ws)

/-- The commands of lines and polylines (R120, class 010), by `op[4:0]`. -/
def decodeLine (v : Nat) (ws : List Word) : Instr :=
  match v with
  | 0 => .lineF (.ofWords ws)
  | 1 => .lineFX41 (.ofWords ws)
  | 2 => .lineFS (.ofWords ws)
  | 3 => .lineFSX43 (.ofWords ws)
  | 4 => .lineFX44 (.ofWords ws)
  | 5 => .lineFX45 (.ofWords ws)
  | 6 => .lineFSX46 (.ofWords ws)
  | 7 => .lineFSX47 (.ofWords ws)
  | 8 => .plineF (.ofWords ws)
  | 9 => .plineFX49 (.ofWords ws)
  | 10 => .plineFS (.ofWords ws)
  | 11 => .plineFSX4B (.ofWords ws)
  | 12 => .plineFX4C (.ofWords ws)
  | 13 => .plineFX4D (.ofWords ws)
  | 14 => .plineFSX4E (.ofWords ws)
  | 15 => .plineFSX4F (.ofWords ws)
  | 16 => .lineG (.ofWords ws)
  | 17 => .lineGX51 (.ofWords ws)
  | 18 => .lineGS (.ofWords ws)
  | 19 => .lineGSX53 (.ofWords ws)
  | 20 => .lineGX54 (.ofWords ws)
  | 21 => .lineGX55 (.ofWords ws)
  | 22 => .lineGSX56 (.ofWords ws)
  | 23 => .lineGSX57 (.ofWords ws)
  | 24 => .plineG (.ofWords ws)
  | 25 => .plineGX59 (.ofWords ws)
  | 26 => .plineGS (.ofWords ws)
  | 27 => .plineGSX5B (.ofWords ws)
  | 28 => .plineGX5C (.ofWords ws)
  | 29 => .plineGX5D (.ofWords ws)
  | 30 => .plineGSX5E (.ofWords ws)
  | _ => .plineGSX5F (.ofWords ws)

/-- The commands of rectangles and sprites (R122, class 011), by `op[4:0]`. -/
def decodeRect (v : Nat) (ws : List Word) : Instr :=
  match v with
  | 0 => .rectV (.ofWords ws)
  | 1 => .rectVR (.ofWords ws)
  | 2 => .rectVS (.ofWords ws)
  | 3 => .rectVSR (.ofWords ws)
  | 4 => .rectVT (.ofWords ws)
  | 5 => .rectVTR (.ofWords ws)
  | 6 => .rectVTS (.ofWords ws)
  | 7 => .rectVTSR (.ofWords ws)
  | 8 => .rect1 (.ofWords ws)
  | 9 => .rect1R (.ofWords ws)
  | 10 => .rect1S (.ofWords ws)
  | 11 => .rect1SR (.ofWords ws)
  | 12 => .rect1T (.ofWords ws)
  | 13 => .rect1TR (.ofWords ws)
  | 14 => .rect1TS (.ofWords ws)
  | 15 => .rect1TSR (.ofWords ws)
  | 16 => .rect8 (.ofWords ws)
  | 17 => .rect8R (.ofWords ws)
  | 18 => .rect8S (.ofWords ws)
  | 19 => .rect8SR (.ofWords ws)
  | 20 => .rect8T (.ofWords ws)
  | 21 => .rect8TR (.ofWords ws)
  | 22 => .rect8TS (.ofWords ws)
  | 23 => .rect8TSR (.ofWords ws)
  | 24 => .rect16 (.ofWords ws)
  | 25 => .rect16R (.ofWords ws)
  | 26 => .rect16S (.ofWords ws)
  | 27 => .rect16SR (.ofWords ws)
  | 28 => .rect16T (.ofWords ws)
  | 29 => .rect16TR (.ofWords ws)
  | 30 => .rect16TS (.ofWords ws)
  | _ => .rect16TSR (.ofWords ws)

/-- The commands of VRAM copies (R124, class 100), by `op[4:0]`. -/
def decodeCopy (v : Nat) (ws : List Word) : Instr :=
  match v with
  | 0 => .vcopy (.ofWords ws)
  | 1 => .vcopyX81 (.ofWords ws)
  | 2 => .vcopyX82 (.ofWords ws)
  | 3 => .vcopyX83 (.ofWords ws)
  | 4 => .vcopyX84 (.ofWords ws)
  | 5 => .vcopyX85 (.ofWords ws)
  | 6 => .vcopyX86 (.ofWords ws)
  | 7 => .vcopyX87 (.ofWords ws)
  | 8 => .vcopyX88 (.ofWords ws)
  | 9 => .vcopyX89 (.ofWords ws)
  | 10 => .vcopyX8A (.ofWords ws)
  | 11 => .vcopyX8B (.ofWords ws)
  | 12 => .vcopyX8C (.ofWords ws)
  | 13 => .vcopyX8D (.ofWords ws)
  | 14 => .vcopyX8E (.ofWords ws)
  | 15 => .vcopyX8F (.ofWords ws)
  | 16 => .vcopyX90 (.ofWords ws)
  | 17 => .vcopyX91 (.ofWords ws)
  | 18 => .vcopyX92 (.ofWords ws)
  | 19 => .vcopyX93 (.ofWords ws)
  | 20 => .vcopyX94 (.ofWords ws)
  | 21 => .vcopyX95 (.ofWords ws)
  | 22 => .vcopyX96 (.ofWords ws)
  | 23 => .vcopyX97 (.ofWords ws)
  | 24 => .vcopyX98 (.ofWords ws)
  | 25 => .vcopyX99 (.ofWords ws)
  | 26 => .vcopyX9A (.ofWords ws)
  | 27 => .vcopyX9B (.ofWords ws)
  | 28 => .vcopyX9C (.ofWords ws)
  | 29 => .vcopyX9D (.ofWords ws)
  | 30 => .vcopyX9E (.ofWords ws)
  | _ => .vcopyX9F (.ofWords ws)

/-- The commands of image-in (R125, class 101), by `op[4:0]`. -/
def decodeImageIn (v : Nat) (ws : List Word) : Instr :=
  match v with
  | 0 => .imgin (.ofWords ws)
  | 1 => .imginXA1 (.ofWords ws)
  | 2 => .imginXA2 (.ofWords ws)
  | 3 => .imginXA3 (.ofWords ws)
  | 4 => .imginXA4 (.ofWords ws)
  | 5 => .imginXA5 (.ofWords ws)
  | 6 => .imginXA6 (.ofWords ws)
  | 7 => .imginXA7 (.ofWords ws)
  | 8 => .imginXA8 (.ofWords ws)
  | 9 => .imginXA9 (.ofWords ws)
  | 10 => .imginXAA (.ofWords ws)
  | 11 => .imginXAB (.ofWords ws)
  | 12 => .imginXAC (.ofWords ws)
  | 13 => .imginXAD (.ofWords ws)
  | 14 => .imginXAE (.ofWords ws)
  | 15 => .imginXAF (.ofWords ws)
  | 16 => .imginXB0 (.ofWords ws)
  | 17 => .imginXB1 (.ofWords ws)
  | 18 => .imginXB2 (.ofWords ws)
  | 19 => .imginXB3 (.ofWords ws)
  | 20 => .imginXB4 (.ofWords ws)
  | 21 => .imginXB5 (.ofWords ws)
  | 22 => .imginXB6 (.ofWords ws)
  | 23 => .imginXB7 (.ofWords ws)
  | 24 => .imginXB8 (.ofWords ws)
  | 25 => .imginXB9 (.ofWords ws)
  | 26 => .imginXBA (.ofWords ws)
  | 27 => .imginXBB (.ofWords ws)
  | 28 => .imginXBC (.ofWords ws)
  | 29 => .imginXBD (.ofWords ws)
  | 30 => .imginXBE (.ofWords ws)
  | _ => .imginXBF (.ofWords ws)

/-- The commands of image-out (R125, class 110), by `op[4:0]`. -/
def decodeImageOut (v : Nat) (ws : List Word) : Instr :=
  match v with
  | 0 => .imgout (.ofWords ws)
  | 1 => .imgoutXC1 (.ofWords ws)
  | 2 => .imgoutXC2 (.ofWords ws)
  | 3 => .imgoutXC3 (.ofWords ws)
  | 4 => .imgoutXC4 (.ofWords ws)
  | 5 => .imgoutXC5 (.ofWords ws)
  | 6 => .imgoutXC6 (.ofWords ws)
  | 7 => .imgoutXC7 (.ofWords ws)
  | 8 => .imgoutXC8 (.ofWords ws)
  | 9 => .imgoutXC9 (.ofWords ws)
  | 10 => .imgoutXCA (.ofWords ws)
  | 11 => .imgoutXCB (.ofWords ws)
  | 12 => .imgoutXCC (.ofWords ws)
  | 13 => .imgoutXCD (.ofWords ws)
  | 14 => .imgoutXCE (.ofWords ws)
  | 15 => .imgoutXCF (.ofWords ws)
  | 16 => .imgoutXD0 (.ofWords ws)
  | 17 => .imgoutXD1 (.ofWords ws)
  | 18 => .imgoutXD2 (.ofWords ws)
  | 19 => .imgoutXD3 (.ofWords ws)
  | 20 => .imgoutXD4 (.ofWords ws)
  | 21 => .imgoutXD5 (.ofWords ws)
  | 22 => .imgoutXD6 (.ofWords ws)
  | 23 => .imgoutXD7 (.ofWords ws)
  | 24 => .imgoutXD8 (.ofWords ws)
  | 25 => .imgoutXD9 (.ofWords ws)
  | 26 => .imgoutXDA (.ofWords ws)
  | 27 => .imgoutXDB (.ofWords ws)
  | 28 => .imgoutXDC (.ofWords ws)
  | 29 => .imgoutXDD (.ofWords ws)
  | 30 => .imgoutXDE (.ofWords ws)
  | _ => .imgoutXDF (.ofWords ws)

/-- The commands of mode setting and reserved (R126, class 111), by `op[4:0]`. -/
def decodeMode (v : Nat) (ws : List Word) : Instr :=
  match v with
  | 0 => .rsvdE0
  | 1 => .setmode (.ofWord (wordAt ws 0))
  | 2 => .settw (.ofWord (wordAt ws 0))
  | 3 => .setclip1 (.ofWord (wordAt ws 0))
  | 4 => .setclip2 (.ofWord (wordAt ws 0))
  | 5 => .setofs (.ofWord (wordAt ws 0))
  | 6 => .setmask (.ofWord (wordAt ws 0))
  | 7 => .rsvdE7
  | 8 => .rsvdE8
  | 9 => .rsvdE9
  | 10 => .rsvdEA
  | 11 => .rsvdEB
  | 12 => .rsvdEC
  | 13 => .rsvdED
  | 14 => .rsvdEE
  | 15 => .rsvdEF
  | 16 => .rsvdF0
  | 17 => .rsvdF1
  | 18 => .rsvdF2
  | 19 => .rsvdF3
  | 20 => .rsvdF4
  | 21 => .rsvdF5
  | 22 => .rsvdF6
  | 23 => .rsvdF7
  | 24 => .rsvdF8
  | 25 => .rsvdF9
  | 26 => .rsvdFA
  | 27 => .rsvdFB
  | 28 => .rsvdFC
  | 29 => .rsvdFD
  | 30 => .rsvdFE
  | _ => .rsvdFF

/-- The GP0 instruction of an opcode and the command's words: every opcode is one (R128, R129). -/
def gp0Instr (op : BitVec 8) (ws : List Word) : Instr :=
  match opClass op with
  | 0 => decodeMisc (opVariant op) ws
  | 1 => decodePolygon (opVariant op) ws
  | 2 => decodeLine (opVariant op) ws
  | 3 => decodeRect (opVariant op) ws
  | 4 => decodeCopy (opVariant op) ws
  | 5 => decodeImageIn (opVariant op) ws
  | 6 => decodeImageOut (opVariant op) ws
  | _ => decodeMode (opVariant op) ws

/-- GP1 opcodes 00 to 1F (R127). -/
def decodeGp1Low (v : Nat) (w : Word) : Instr :=
  match v with
  | 0 => .g1Reset
  | 1 => .g1Abort
  | 2 => .g1Ack
  | 3 => .g1Dispen (.ofWord w)
  | 4 => .g1Dmadir (.ofWord w)
  | 5 => .g1Origin (.ofWord w)
  | 6 => .g1Hrange (.ofWord w)
  | 7 => .g1Vrange (.ofWord w)
  | 8 => .g1Mode (.ofWord w)
  | 9 => .g1Rsvd09
  | 10 => .g1Rsvd0A
  | 11 => .g1Rsvd0B
  | 12 => .g1Rsvd0C
  | 13 => .g1Rsvd0D
  | 14 => .g1Rsvd0E
  | 15 => .g1Rsvd0F
  | 16 => .g1Info (.ofWord w)
  | 17 => .g1InfoX11 (.ofWord w)
  | 18 => .g1InfoX12 (.ofWord w)
  | 19 => .g1InfoX13 (.ofWord w)
  | 20 => .g1InfoX14 (.ofWord w)
  | 21 => .g1InfoX15 (.ofWord w)
  | 22 => .g1InfoX16 (.ofWord w)
  | 23 => .g1InfoX17 (.ofWord w)
  | 24 => .g1InfoX18 (.ofWord w)
  | 25 => .g1InfoX19 (.ofWord w)
  | 26 => .g1InfoX1A (.ofWord w)
  | 27 => .g1InfoX1B (.ofWord w)
  | 28 => .g1InfoX1C (.ofWord w)
  | 29 => .g1InfoX1D (.ofWord w)
  | 30 => .g1InfoX1E (.ofWord w)
  | _ => .g1InfoX1F (.ofWord w)

/-- GP1 opcodes 20 to 3F, all reserved (R127). -/
def decodeGp1High (v : Nat) : Instr :=
  match v with
  | 0 => .g1Rsvd20
  | 1 => .g1Rsvd21
  | 2 => .g1Rsvd22
  | 3 => .g1Rsvd23
  | 4 => .g1Rsvd24
  | 5 => .g1Rsvd25
  | 6 => .g1Rsvd26
  | 7 => .g1Rsvd27
  | 8 => .g1Rsvd28
  | 9 => .g1Rsvd29
  | 10 => .g1Rsvd2A
  | 11 => .g1Rsvd2B
  | 12 => .g1Rsvd2C
  | 13 => .g1Rsvd2D
  | 14 => .g1Rsvd2E
  | 15 => .g1Rsvd2F
  | 16 => .g1Rsvd30
  | 17 => .g1Rsvd31
  | 18 => .g1Rsvd32
  | 19 => .g1Rsvd33
  | 20 => .g1Rsvd34
  | 21 => .g1Rsvd35
  | 22 => .g1Rsvd36
  | 23 => .g1Rsvd37
  | 24 => .g1Rsvd38
  | 25 => .g1Rsvd39
  | 26 => .g1Rsvd3A
  | 27 => .g1Rsvd3B
  | 28 => .g1Rsvd3C
  | 29 => .g1Rsvd3D
  | 30 => .g1Rsvd3E
  | _ => .g1Rsvd3F

/-- The GP1 instruction of a control word: every word is one (R127, R129). -/
def decodeGp1 (w : Word) : Instr :=
  if (gp1OpcodeOf w).toNat < 32 then decodeGp1Low (gp1OpcodeOf w).toNat w
  else decodeGp1High ((gp1OpcodeOf w).toNat % 32)

/-- Why a list of words is no command: no opcode word, or fewer words than `LEN` of its opcode. -/
inductive DecodeError where
  | noWord
  | truncated (op : BitVec 8)
  deriving DecidableEq, Repr

/-- The GP0 command at the head of a list of words (R111, R133). -/
def decodeGp0 (ws : List Word) : Except DecodeError Instr :=
  match ws with
  | [] => .error .noWord
  | w :: _ =>
    if ws.length < opLen (opcodeOf w) then .error (.truncated (opcodeOf w))
    else .ok (gp0Instr (opcodeOf w) ws)

/-- The command at the head of a list of words given to a port, and the words after it. -/
def decode (p : Port) (ws : List Word) : Except DecodeError (Instr × List Word) :=
  match p, ws with
  | _, [] => .error .noWord
  | .gp1, w :: rest => .ok (decodeGp1 w, rest)
  | .gp0, w :: rest =>
    match decodeGp0 (w :: rest) with
    | .error e => .error e
    | .ok i => .ok (i, (w :: rest).drop (opLen (opcodeOf w)))

/-! ## Words in storage (R81) -/

/-- The word stored at four rising byte addresses, least significant byte first (R81). -/
def wordOfBytes (b0 b1 b2 b3 : Byte) : Word := b3 ++ b2 ++ b1 ++ b0

/-- Byte `k` of a word in storage, `k` = 0 to 3 (R81). -/
def byteOfWord (w : Word) (k : Nat) : Byte := field w (8 * k) 8

/-- The whole words of a list of bytes (R81); one to three bytes left over are no word. -/
def wordsOfBytes : List Byte → List Word
  | b0 :: b1 :: b2 :: b3 :: rest => wordOfBytes b0 b1 b2 b3 :: wordsOfBytes rest
  | _ => []

/-- The command whose words stand in storage as these bytes. -/
def decodeBytes (p : Port) (bs : List Byte) : Except DecodeError (Instr × List Word) :=
  decode p (wordsOfBytes bs)

/-- The bytes of the twelve words (the longest command, R111) of an instruction given as one number,
bit 0 the least significant bit of its first word; the bits from `nbits` up are 0. -/
def tableBytes (nbits w : Nat) : List Byte :=
  (List.range 48).map fun k => BitVec.ofNat 8 ((w % 2 ^ nbits) >>> (8 * k))

/-- The instruction of a row of spec/opcode_table.json. A GP1 row's word is also a GP0 row's word and
`nbits` does not tell them apart: it is read as the word of the GP0 port (log entry 4). -/
def decodeTableWord (nbits w : Nat) : Option Instr :=
  match decodeBytes .gp0 (tableBytes nbits w) with
  | .ok (i, _) => some i
  | .error _ => none

/-! ## The encoder -/

/-- The first word of a command: its opcode and 24 more bits (R113). -/
def cmd (op : BitVec 8) (par : BitVec 24) : Word := op ++ par

/-- The 24 bits of a colour (R114). -/
def Rgb.bits (c : Rgb) : BitVec 24 := c.b ++ c.g ++ c.r

/-- A `VTX` word (R115). -/
def Vtx.word (v : Vtx) : Word := 0#5 ++ v.y ++ 0#5 ++ v.x

/-- The lower half of a `TEX` word (R116). -/
def Uv.bits (t : Uv) : BitVec 16 := t.v ++ t.u

/-- The upper half of a `TEX` word with a CLUT selector (R117). -/
def ClutSel.bits (k : ClutSel) : BitVec 16 := 0#1 ++ k.cy ++ k.cx

/-- The nine bits of a page attribute (R118, R126). -/
def PageAttr.bits (a : PageAttr) : BitVec 9 := a.tdepth ++ a.abr ++ a.tpy ++ a.tpx

/-- A `SIZE`, `XY` or `WH` word of a 10-bit and a 9-bit field (R122 to R125). -/
def sizeWord (x : BitVec 10) (y : BitVec 9) : Word := 0#7 ++ y ++ 0#6 ++ x

/-- FILL's width field: 1024 is asked for by 0x3FF (R123). -/
def fillWidthField (w : Nat) : BitVec 10 := if w = 1024 then 0x3FF#10 else BitVec.ofNat 10 w

/-- The words of a command with this opcode and these operands, every ignored bit 0. -/
def Operands.words (op : BitVec 8) : Operands → List Word
  | .none => [cmd op 0#24]
  | .flatTri o =>
    [cmd op o.c0.bits, o.v0.word, o.v1.word, o.v2.word]
  | .flatTriTex o =>
    [cmd op o.c0.bits, o.v0.word, o.clut.bits ++ o.t0.bits, o.v1.word, 0#7 ++ o.page.bits ++ o.t1.bits, o.v2.word, 0#16 ++ o.t2.bits]
  | .flatQuad o =>
    [cmd op o.c0.bits, o.v0.word, o.v1.word, o.v2.word, o.v3.word]
  | .flatQuadTex o =>
    [cmd op o.c0.bits, o.v0.word, o.clut.bits ++ o.t0.bits, o.v1.word, 0#7 ++ o.page.bits ++ o.t1.bits, o.v2.word, 0#16 ++ o.t2.bits, o.v3.word, 0#16 ++ o.t3.bits]
  | .gourTri o =>
    [cmd op o.c0.bits, o.v0.word, 0#8 ++ o.c1.bits, o.v1.word, 0#8 ++ o.c2.bits, o.v2.word]
  | .gourTriTex o =>
    [cmd op o.c0.bits, o.v0.word, o.clut.bits ++ o.t0.bits, 0#8 ++ o.c1.bits, o.v1.word, 0#7 ++ o.page.bits ++ o.t1.bits, 0#8 ++ o.c2.bits, o.v2.word, 0#16 ++ o.t2.bits]
  | .gourQuad o =>
    [cmd op o.c0.bits, o.v0.word, 0#8 ++ o.c1.bits, o.v1.word, 0#8 ++ o.c2.bits, o.v2.word, 0#8 ++ o.c3.bits, o.v3.word]
  | .gourQuadTex o =>
    [cmd op o.c0.bits, o.v0.word, o.clut.bits ++ o.t0.bits, 0#8 ++ o.c1.bits, o.v1.word, 0#7 ++ o.page.bits ++ o.t1.bits, 0#8 ++ o.c2.bits, o.v2.word, 0#16 ++ o.t2.bits, 0#8 ++ o.c3.bits, o.v3.word, 0#16 ++ o.t3.bits]
  | .flatLine o =>
    [cmd op o.c0.bits, o.v0.word, o.v1.word]
  | .gourLine o =>
    [cmd op o.c0.bits, o.v0.word, 0#8 ++ o.c1.bits, o.v1.word]
  | .rectVar o =>
    [cmd op o.c0.bits, o.v0.word, sizeWord o.w o.h]
  | .rectVarTex o =>
    [cmd op o.c0.bits, o.v0.word, o.clut.bits ++ o.t0.bits, sizeWord o.w o.h]
  | .rectFix o =>
    [cmd op o.c0.bits, o.v0.word]
  | .rectFixTex o =>
    [cmd op o.c0.bits, o.v0.word, o.clut.bits ++ o.t0.bits]
  | .fill o => [cmd op o.c0.bits, sizeWord (BitVec.ofNat 10 o.x) o.y, sizeWord (fillWidthField o.w) o.h]
  | .copy o =>
    [cmd op 0#24, sizeWord o.sx o.sy, sizeWord o.dx o.dy,
      sizeWord (BitVec.ofNat 10 o.w) (BitVec.ofNat 9 o.h)]
  | .xfer o => [cmd op 0#24, sizeWord o.x o.y, sizeWord (BitVec.ofNat 10 o.w) (BitVec.ofNat 9 o.h)]
  | .setMode o => [cmd op (0#13 ++ bit o.dfe ++ bit o.dtd ++ o.page.bits)]
  | .setTw o => [cmd op (0#4 ++ o.oy ++ o.ox ++ o.my ++ o.mx)]
  | .setClip o => [cmd op (0#5 ++ o.y ++ o.x)]
  | .setOfs o => [cmd op (0#2 ++ o.y ++ o.x)]
  | .setMask o => [cmd op (0#22 ++ bit o.chkBit ++ bit o.setBit)]
  | .dispEn o => [cmd op (0#23 ++ bit o.off)]
  | .dmaDir o => [cmd op (0#22 ++ o.dir)]
  | .origin o => [cmd op (0#5 ++ o.y ++ o.x)]
  | .hRange o => [cmd op (o.x2 ++ o.x1)]
  | .vRange o => [cmd op (0#4 ++ o.y2 ++ o.y1)]
  | .mode o =>
    [cmd op (0#16 ++ bit o.rev ++ bit o.hres2 ++ bit o.ilace ++ bit o.c24 ++ bit o.pal ++
      bit o.vres ++ o.hres1)]
  | .info o => [cmd op (0#21 ++ o.index)]

/-- The port and opcode of an instruction (spec/opcode_table.json, column match). -/
def Instr.key : Instr → Port × BitVec 8
  | .nop => (.gp0, 0x00#8)
  | .flush => (.gp0, 0x01#8)
  | .fill _ => (.gp0, 0x02#8)
  | .rsvd03 => (.gp0, 0x03#8)
  | .rsvd04 => (.gp0, 0x04#8)
  | .rsvd05 => (.gp0, 0x05#8)
  | .rsvd06 => (.gp0, 0x06#8)
  | .rsvd07 => (.gp0, 0x07#8)
  | .rsvd08 => (.gp0, 0x08#8)
  | .rsvd09 => (.gp0, 0x09#8)
  | .rsvd0A => (.gp0, 0x0A#8)
  | .rsvd0B => (.gp0, 0x0B#8)
  | .rsvd0C => (.gp0, 0x0C#8)
  | .rsvd0D => (.gp0, 0x0D#8)
  | .rsvd0E => (.gp0, 0x0E#8)
  | .rsvd0F => (.gp0, 0x0F#8)
  | .rsvd10 => (.gp0, 0x10#8)
  | .rsvd11 => (.gp0, 0x11#8)
  | .rsvd12 => (.gp0, 0x12#8)
  | .rsvd13 => (.gp0, 0x13#8)
  | .rsvd14 => (.gp0, 0x14#8)
  | .rsvd15 => (.gp0, 0x15#8)
  | .rsvd16 => (.gp0, 0x16#8)
  | .rsvd17 => (.gp0, 0x17#8)
  | .rsvd18 => (.gp0, 0x18#8)
  | .rsvd19 => (.gp0, 0x19#8)
  | .rsvd1A => (.gp0, 0x1A#8)
  | .rsvd1B => (.gp0, 0x1B#8)
  | .rsvd1C => (.gp0, 0x1C#8)
  | .rsvd1D => (.gp0, 0x1D#8)
  | .rsvd1E => (.gp0, 0x1E#8)
  | .rsvd1F => (.gp0, 0x1F#8)
  | .polyF3 _ => (.gp0, 0x20#8)
  | .polyF3R _ => (.gp0, 0x21#8)
  | .polyF3S _ => (.gp0, 0x22#8)
  | .polyF3SR _ => (.gp0, 0x23#8)
  | .polyF3T _ => (.gp0, 0x24#8)
  | .polyF3TR _ => (.gp0, 0x25#8)
  | .polyF3TS _ => (.gp0, 0x26#8)
  | .polyF3TSR _ => (.gp0, 0x27#8)
  | .polyF4 _ => (.gp0, 0x28#8)
  | .polyF4R _ => (.gp0, 0x29#8)
  | .polyF4S _ => (.gp0, 0x2A#8)
  | .polyF4SR _ => (.gp0, 0x2B#8)
  | .polyF4T _ => (.gp0, 0x2C#8)
  | .polyF4TR _ => (.gp0, 0x2D#8)
  | .polyF4TS _ => (.gp0, 0x2E#8)
  | .polyF4TSR _ => (.gp0, 0x2F#8)
  | .polyG3 _ => (.gp0, 0x30#8)
  | .polyG3R _ => (.gp0, 0x31#8)
  | .polyG3S _ => (.gp0, 0x32#8)
  | .polyG3SR _ => (.gp0, 0x33#8)
  | .polyG3T _ => (.gp0, 0x34#8)
  | .polyG3TR _ => (.gp0, 0x35#8)
  | .polyG3TS _ => (.gp0, 0x36#8)
  | .polyG3TSR _ => (.gp0, 0x37#8)
  | .polyG4 _ => (.gp0, 0x38#8)
  | .polyG4R _ => (.gp0, 0x39#8)
  | .polyG4S _ => (.gp0, 0x3A#8)
  | .polyG4SR _ => (.gp0, 0x3B#8)
  | .polyG4T _ => (.gp0, 0x3C#8)
  | .polyG4TR _ => (.gp0, 0x3D#8)
  | .polyG4TS _ => (.gp0, 0x3E#8)
  | .polyG4TSR _ => (.gp0, 0x3F#8)
  | .lineF _ => (.gp0, 0x40#8)
  | .lineFX41 _ => (.gp0, 0x41#8)
  | .lineFS _ => (.gp0, 0x42#8)
  | .lineFSX43 _ => (.gp0, 0x43#8)
  | .lineFX44 _ => (.gp0, 0x44#8)
  | .lineFX45 _ => (.gp0, 0x45#8)
  | .lineFSX46 _ => (.gp0, 0x46#8)
  | .lineFSX47 _ => (.gp0, 0x47#8)
  | .plineF _ => (.gp0, 0x48#8)
  | .plineFX49 _ => (.gp0, 0x49#8)
  | .plineFS _ => (.gp0, 0x4A#8)
  | .plineFSX4B _ => (.gp0, 0x4B#8)
  | .plineFX4C _ => (.gp0, 0x4C#8)
  | .plineFX4D _ => (.gp0, 0x4D#8)
  | .plineFSX4E _ => (.gp0, 0x4E#8)
  | .plineFSX4F _ => (.gp0, 0x4F#8)
  | .lineG _ => (.gp0, 0x50#8)
  | .lineGX51 _ => (.gp0, 0x51#8)
  | .lineGS _ => (.gp0, 0x52#8)
  | .lineGSX53 _ => (.gp0, 0x53#8)
  | .lineGX54 _ => (.gp0, 0x54#8)
  | .lineGX55 _ => (.gp0, 0x55#8)
  | .lineGSX56 _ => (.gp0, 0x56#8)
  | .lineGSX57 _ => (.gp0, 0x57#8)
  | .plineG _ => (.gp0, 0x58#8)
  | .plineGX59 _ => (.gp0, 0x59#8)
  | .plineGS _ => (.gp0, 0x5A#8)
  | .plineGSX5B _ => (.gp0, 0x5B#8)
  | .plineGX5C _ => (.gp0, 0x5C#8)
  | .plineGX5D _ => (.gp0, 0x5D#8)
  | .plineGSX5E _ => (.gp0, 0x5E#8)
  | .plineGSX5F _ => (.gp0, 0x5F#8)
  | .rectV _ => (.gp0, 0x60#8)
  | .rectVR _ => (.gp0, 0x61#8)
  | .rectVS _ => (.gp0, 0x62#8)
  | .rectVSR _ => (.gp0, 0x63#8)
  | .rectVT _ => (.gp0, 0x64#8)
  | .rectVTR _ => (.gp0, 0x65#8)
  | .rectVTS _ => (.gp0, 0x66#8)
  | .rectVTSR _ => (.gp0, 0x67#8)
  | .rect1 _ => (.gp0, 0x68#8)
  | .rect1R _ => (.gp0, 0x69#8)
  | .rect1S _ => (.gp0, 0x6A#8)
  | .rect1SR _ => (.gp0, 0x6B#8)
  | .rect1T _ => (.gp0, 0x6C#8)
  | .rect1TR _ => (.gp0, 0x6D#8)
  | .rect1TS _ => (.gp0, 0x6E#8)
  | .rect1TSR _ => (.gp0, 0x6F#8)
  | .rect8 _ => (.gp0, 0x70#8)
  | .rect8R _ => (.gp0, 0x71#8)
  | .rect8S _ => (.gp0, 0x72#8)
  | .rect8SR _ => (.gp0, 0x73#8)
  | .rect8T _ => (.gp0, 0x74#8)
  | .rect8TR _ => (.gp0, 0x75#8)
  | .rect8TS _ => (.gp0, 0x76#8)
  | .rect8TSR _ => (.gp0, 0x77#8)
  | .rect16 _ => (.gp0, 0x78#8)
  | .rect16R _ => (.gp0, 0x79#8)
  | .rect16S _ => (.gp0, 0x7A#8)
  | .rect16SR _ => (.gp0, 0x7B#8)
  | .rect16T _ => (.gp0, 0x7C#8)
  | .rect16TR _ => (.gp0, 0x7D#8)
  | .rect16TS _ => (.gp0, 0x7E#8)
  | .rect16TSR _ => (.gp0, 0x7F#8)
  | .vcopy _ => (.gp0, 0x80#8)
  | .vcopyX81 _ => (.gp0, 0x81#8)
  | .vcopyX82 _ => (.gp0, 0x82#8)
  | .vcopyX83 _ => (.gp0, 0x83#8)
  | .vcopyX84 _ => (.gp0, 0x84#8)
  | .vcopyX85 _ => (.gp0, 0x85#8)
  | .vcopyX86 _ => (.gp0, 0x86#8)
  | .vcopyX87 _ => (.gp0, 0x87#8)
  | .vcopyX88 _ => (.gp0, 0x88#8)
  | .vcopyX89 _ => (.gp0, 0x89#8)
  | .vcopyX8A _ => (.gp0, 0x8A#8)
  | .vcopyX8B _ => (.gp0, 0x8B#8)
  | .vcopyX8C _ => (.gp0, 0x8C#8)
  | .vcopyX8D _ => (.gp0, 0x8D#8)
  | .vcopyX8E _ => (.gp0, 0x8E#8)
  | .vcopyX8F _ => (.gp0, 0x8F#8)
  | .vcopyX90 _ => (.gp0, 0x90#8)
  | .vcopyX91 _ => (.gp0, 0x91#8)
  | .vcopyX92 _ => (.gp0, 0x92#8)
  | .vcopyX93 _ => (.gp0, 0x93#8)
  | .vcopyX94 _ => (.gp0, 0x94#8)
  | .vcopyX95 _ => (.gp0, 0x95#8)
  | .vcopyX96 _ => (.gp0, 0x96#8)
  | .vcopyX97 _ => (.gp0, 0x97#8)
  | .vcopyX98 _ => (.gp0, 0x98#8)
  | .vcopyX99 _ => (.gp0, 0x99#8)
  | .vcopyX9A _ => (.gp0, 0x9A#8)
  | .vcopyX9B _ => (.gp0, 0x9B#8)
  | .vcopyX9C _ => (.gp0, 0x9C#8)
  | .vcopyX9D _ => (.gp0, 0x9D#8)
  | .vcopyX9E _ => (.gp0, 0x9E#8)
  | .vcopyX9F _ => (.gp0, 0x9F#8)
  | .imgin _ => (.gp0, 0xA0#8)
  | .imginXA1 _ => (.gp0, 0xA1#8)
  | .imginXA2 _ => (.gp0, 0xA2#8)
  | .imginXA3 _ => (.gp0, 0xA3#8)
  | .imginXA4 _ => (.gp0, 0xA4#8)
  | .imginXA5 _ => (.gp0, 0xA5#8)
  | .imginXA6 _ => (.gp0, 0xA6#8)
  | .imginXA7 _ => (.gp0, 0xA7#8)
  | .imginXA8 _ => (.gp0, 0xA8#8)
  | .imginXA9 _ => (.gp0, 0xA9#8)
  | .imginXAA _ => (.gp0, 0xAA#8)
  | .imginXAB _ => (.gp0, 0xAB#8)
  | .imginXAC _ => (.gp0, 0xAC#8)
  | .imginXAD _ => (.gp0, 0xAD#8)
  | .imginXAE _ => (.gp0, 0xAE#8)
  | .imginXAF _ => (.gp0, 0xAF#8)
  | .imginXB0 _ => (.gp0, 0xB0#8)
  | .imginXB1 _ => (.gp0, 0xB1#8)
  | .imginXB2 _ => (.gp0, 0xB2#8)
  | .imginXB3 _ => (.gp0, 0xB3#8)
  | .imginXB4 _ => (.gp0, 0xB4#8)
  | .imginXB5 _ => (.gp0, 0xB5#8)
  | .imginXB6 _ => (.gp0, 0xB6#8)
  | .imginXB7 _ => (.gp0, 0xB7#8)
  | .imginXB8 _ => (.gp0, 0xB8#8)
  | .imginXB9 _ => (.gp0, 0xB9#8)
  | .imginXBA _ => (.gp0, 0xBA#8)
  | .imginXBB _ => (.gp0, 0xBB#8)
  | .imginXBC _ => (.gp0, 0xBC#8)
  | .imginXBD _ => (.gp0, 0xBD#8)
  | .imginXBE _ => (.gp0, 0xBE#8)
  | .imginXBF _ => (.gp0, 0xBF#8)
  | .imgout _ => (.gp0, 0xC0#8)
  | .imgoutXC1 _ => (.gp0, 0xC1#8)
  | .imgoutXC2 _ => (.gp0, 0xC2#8)
  | .imgoutXC3 _ => (.gp0, 0xC3#8)
  | .imgoutXC4 _ => (.gp0, 0xC4#8)
  | .imgoutXC5 _ => (.gp0, 0xC5#8)
  | .imgoutXC6 _ => (.gp0, 0xC6#8)
  | .imgoutXC7 _ => (.gp0, 0xC7#8)
  | .imgoutXC8 _ => (.gp0, 0xC8#8)
  | .imgoutXC9 _ => (.gp0, 0xC9#8)
  | .imgoutXCA _ => (.gp0, 0xCA#8)
  | .imgoutXCB _ => (.gp0, 0xCB#8)
  | .imgoutXCC _ => (.gp0, 0xCC#8)
  | .imgoutXCD _ => (.gp0, 0xCD#8)
  | .imgoutXCE _ => (.gp0, 0xCE#8)
  | .imgoutXCF _ => (.gp0, 0xCF#8)
  | .imgoutXD0 _ => (.gp0, 0xD0#8)
  | .imgoutXD1 _ => (.gp0, 0xD1#8)
  | .imgoutXD2 _ => (.gp0, 0xD2#8)
  | .imgoutXD3 _ => (.gp0, 0xD3#8)
  | .imgoutXD4 _ => (.gp0, 0xD4#8)
  | .imgoutXD5 _ => (.gp0, 0xD5#8)
  | .imgoutXD6 _ => (.gp0, 0xD6#8)
  | .imgoutXD7 _ => (.gp0, 0xD7#8)
  | .imgoutXD8 _ => (.gp0, 0xD8#8)
  | .imgoutXD9 _ => (.gp0, 0xD9#8)
  | .imgoutXDA _ => (.gp0, 0xDA#8)
  | .imgoutXDB _ => (.gp0, 0xDB#8)
  | .imgoutXDC _ => (.gp0, 0xDC#8)
  | .imgoutXDD _ => (.gp0, 0xDD#8)
  | .imgoutXDE _ => (.gp0, 0xDE#8)
  | .imgoutXDF _ => (.gp0, 0xDF#8)
  | .rsvdE0 => (.gp0, 0xE0#8)
  | .setmode _ => (.gp0, 0xE1#8)
  | .settw _ => (.gp0, 0xE2#8)
  | .setclip1 _ => (.gp0, 0xE3#8)
  | .setclip2 _ => (.gp0, 0xE4#8)
  | .setofs _ => (.gp0, 0xE5#8)
  | .setmask _ => (.gp0, 0xE6#8)
  | .rsvdE7 => (.gp0, 0xE7#8)
  | .rsvdE8 => (.gp0, 0xE8#8)
  | .rsvdE9 => (.gp0, 0xE9#8)
  | .rsvdEA => (.gp0, 0xEA#8)
  | .rsvdEB => (.gp0, 0xEB#8)
  | .rsvdEC => (.gp0, 0xEC#8)
  | .rsvdED => (.gp0, 0xED#8)
  | .rsvdEE => (.gp0, 0xEE#8)
  | .rsvdEF => (.gp0, 0xEF#8)
  | .rsvdF0 => (.gp0, 0xF0#8)
  | .rsvdF1 => (.gp0, 0xF1#8)
  | .rsvdF2 => (.gp0, 0xF2#8)
  | .rsvdF3 => (.gp0, 0xF3#8)
  | .rsvdF4 => (.gp0, 0xF4#8)
  | .rsvdF5 => (.gp0, 0xF5#8)
  | .rsvdF6 => (.gp0, 0xF6#8)
  | .rsvdF7 => (.gp0, 0xF7#8)
  | .rsvdF8 => (.gp0, 0xF8#8)
  | .rsvdF9 => (.gp0, 0xF9#8)
  | .rsvdFA => (.gp0, 0xFA#8)
  | .rsvdFB => (.gp0, 0xFB#8)
  | .rsvdFC => (.gp0, 0xFC#8)
  | .rsvdFD => (.gp0, 0xFD#8)
  | .rsvdFE => (.gp0, 0xFE#8)
  | .rsvdFF => (.gp0, 0xFF#8)
  | .g1Reset => (.gp1, 0x00#8)
  | .g1Abort => (.gp1, 0x01#8)
  | .g1Ack => (.gp1, 0x02#8)
  | .g1Dispen _ => (.gp1, 0x03#8)
  | .g1Dmadir _ => (.gp1, 0x04#8)
  | .g1Origin _ => (.gp1, 0x05#8)
  | .g1Hrange _ => (.gp1, 0x06#8)
  | .g1Vrange _ => (.gp1, 0x07#8)
  | .g1Mode _ => (.gp1, 0x08#8)
  | .g1Rsvd09 => (.gp1, 0x09#8)
  | .g1Rsvd0A => (.gp1, 0x0A#8)
  | .g1Rsvd0B => (.gp1, 0x0B#8)
  | .g1Rsvd0C => (.gp1, 0x0C#8)
  | .g1Rsvd0D => (.gp1, 0x0D#8)
  | .g1Rsvd0E => (.gp1, 0x0E#8)
  | .g1Rsvd0F => (.gp1, 0x0F#8)
  | .g1Info _ => (.gp1, 0x10#8)
  | .g1InfoX11 _ => (.gp1, 0x11#8)
  | .g1InfoX12 _ => (.gp1, 0x12#8)
  | .g1InfoX13 _ => (.gp1, 0x13#8)
  | .g1InfoX14 _ => (.gp1, 0x14#8)
  | .g1InfoX15 _ => (.gp1, 0x15#8)
  | .g1InfoX16 _ => (.gp1, 0x16#8)
  | .g1InfoX17 _ => (.gp1, 0x17#8)
  | .g1InfoX18 _ => (.gp1, 0x18#8)
  | .g1InfoX19 _ => (.gp1, 0x19#8)
  | .g1InfoX1A _ => (.gp1, 0x1A#8)
  | .g1InfoX1B _ => (.gp1, 0x1B#8)
  | .g1InfoX1C _ => (.gp1, 0x1C#8)
  | .g1InfoX1D _ => (.gp1, 0x1D#8)
  | .g1InfoX1E _ => (.gp1, 0x1E#8)
  | .g1InfoX1F _ => (.gp1, 0x1F#8)
  | .g1Rsvd20 => (.gp1, 0x20#8)
  | .g1Rsvd21 => (.gp1, 0x21#8)
  | .g1Rsvd22 => (.gp1, 0x22#8)
  | .g1Rsvd23 => (.gp1, 0x23#8)
  | .g1Rsvd24 => (.gp1, 0x24#8)
  | .g1Rsvd25 => (.gp1, 0x25#8)
  | .g1Rsvd26 => (.gp1, 0x26#8)
  | .g1Rsvd27 => (.gp1, 0x27#8)
  | .g1Rsvd28 => (.gp1, 0x28#8)
  | .g1Rsvd29 => (.gp1, 0x29#8)
  | .g1Rsvd2A => (.gp1, 0x2A#8)
  | .g1Rsvd2B => (.gp1, 0x2B#8)
  | .g1Rsvd2C => (.gp1, 0x2C#8)
  | .g1Rsvd2D => (.gp1, 0x2D#8)
  | .g1Rsvd2E => (.gp1, 0x2E#8)
  | .g1Rsvd2F => (.gp1, 0x2F#8)
  | .g1Rsvd30 => (.gp1, 0x30#8)
  | .g1Rsvd31 => (.gp1, 0x31#8)
  | .g1Rsvd32 => (.gp1, 0x32#8)
  | .g1Rsvd33 => (.gp1, 0x33#8)
  | .g1Rsvd34 => (.gp1, 0x34#8)
  | .g1Rsvd35 => (.gp1, 0x35#8)
  | .g1Rsvd36 => (.gp1, 0x36#8)
  | .g1Rsvd37 => (.gp1, 0x37#8)
  | .g1Rsvd38 => (.gp1, 0x38#8)
  | .g1Rsvd39 => (.gp1, 0x39#8)
  | .g1Rsvd3A => (.gp1, 0x3A#8)
  | .g1Rsvd3B => (.gp1, 0x3B#8)
  | .g1Rsvd3C => (.gp1, 0x3C#8)
  | .g1Rsvd3D => (.gp1, 0x3D#8)
  | .g1Rsvd3E => (.gp1, 0x3E#8)
  | .g1Rsvd3F => (.gp1, 0x3F#8)

/-- The port an instruction is given to (R110). -/
def Instr.port (i : Instr) : Port := i.key.1

/-- The opcode of an instruction (R110). -/
def Instr.opcode (i : Instr) : BitVec 8 := i.key.2

/-- The words of an instruction, written from the encodings of R113 to R127. -/
def encode (i : Instr) : List Word := i.operands.words i.opcode

end Sys2Proof
end

