-- ==== Sys2Proof/Config.lean ====
section
/-! DEFINITION. The implementation parameters of spec/00_scope.md R7. Those the spec marks OPEN are
opaque: no proof can learn their value. Those it fixes have the value it fixes. -/

namespace Sys2Proof.Config

/-- The free part of `T_DIRTY_NS`; the parameter itself is `tDirtyNs` (R7, R374; log entry 5). -/
opaque tDirtyExtra : Nat

/-- The free part of `T_LIVE_NS`; the parameter itself is `tLiveNs` (R7, R374; log entry 5). -/
opaque tLiveExtra : Nat

/-- `T_DIRTY_NS`, OPEN, any integer above 0 (R374). -/
def tDirtyNs : Nat := tDirtyExtra + 1

/-- `T_LIVE_NS`, OPEN, any integer above `T_DIRTY_NS` (R374). -/
def tLiveNs : Nat := tDirtyNs + tLiveExtra + 1

/-- `LIST_FUEL`, OPEN: none, or a number, at least 1, that bounds the linked-list nodes walked in one call (R7, R211;
log entry 6). -/
opaque listFuel : Option Nat

/-- The number of word addresses a 24-bit, word-aligned link can name: a walk of more nodes than
this has visited one node twice, and main memory does not change during a walk (R93), so it is a
walk that never ends (R211). -/
def nodeAddresses : Nat := 4194304

/-- How many nodes one call may walk before the model stops it (R211): as many as there are addresses where
`LIST_FUEL` is none, so that exactly the walks that never end are stopped; `LIST_FUEL` otherwise (log entry 6). -/
def listBound : Nat :=
  match listFuel with
  | none => nodeAddresses
  | some n => max 1 n

/-- The free part of `GP0_ADDR`: its word number on the bus (R7, R86; log entry 7). -/
opaque gp0Slot : BitVec 30

/-- The free part of the distance from `GP0_ADDR` to `GP1_ADDR` (R7, R86; log entry 7). -/
opaque portGap : Nat

/-- The distance from `GP0_ADDR` to `GP1_ADDR` in words, modulo the bus: any but 0. -/
def portDistance : BitVec 30 := BitVec.ofNat 30 (portGap % 1073741823 + 1)

/-- `GP0_ADDR`, OPEN: the word-aligned bus address of the command and data port (R7, R86; log entry 7). -/
def gp0Addr : Word := gp0Slot ++ 0#2

/-- `GP1_ADDR`, OPEN: the word-aligned bus address of the control and status port, not `GP0_ADDR` (R7, R86; log
entry 7). -/
def gp1Addr : Word := (gp0Slot + portDistance) ++ 0#2

/-- `GPU_VERSION_WORD`, fixed to 2 (R7, R361). -/
def gpuVersionWord : Word := 0x00000002#32

/-- `MOD16_IMPLEMENTED`, fixed to true (R7, R306): colour modulation applies to 16-bit textures. -/
def mod16Implemented : Bool := true

end Sys2Proof.Config
end

