-- ==== Sys2Proof/Machine/State.lean ====
section
/-! DEFINITION. The state of the block (spec/10_state.md R20 to R45), its events (R66), the calls of its
environment (R13, R45), its one fault, and power-on (R430). INVENTORY.md lists every field. -/

namespace Sys2Proof.Machine

/-! ## Drawing registers -/

/-- `DM`, the draw mode (R21). -/
structure DrawMode where
  tpx : BitVec 4
  tpy : BitVec 1
  abr : BitVec 2
  tdepth : BitVec 2
  dtd : Bool
  dfe : Bool
  deriving DecidableEq, Repr

/-- `TW`, the texture window (R22); its two tables and `TWEN` are functions of it (log entry 19). -/
structure TexWindow where
  mx : BitVec 5
  my : BitVec 5
  ox : BitVec 5
  oy : BitVec 5
  deriving DecidableEq, Repr

/-- `CLIP`, the clip rectangle, both corners inclusive (R23). -/
structure ClipRect where
  x1 : BitVec 10
  y1 : BitVec 9
  x2 : BitVec 10
  y2 : BitVec 9
  deriving DecidableEq, Repr

/-- `OFS`, the drawing offset: two signed 11-bit integers (R24). -/
structure DrawOffset where
  x : BitVec 11
  y : BitVec 11
  deriving DecidableEq, Repr

/-- `MSK`, the mask mode: set the mask bit on write, check it before (R25). -/
structure MaskMode where
  set : Bool
  chk : Bool
  deriving DecidableEq, Repr

/-! ## Sequencing registers -/

/-- `DSTATE` (R27). -/
inductive DState where
  | idle
  | filling
  | extraData
  deriving DecidableEq, Repr

/-- `XKIND` (R27). -/
inductive XKind where
  | imageIn
  | polyFlat
  | polyGouraud
  deriving DecidableEq, Repr

/-- The image-in sub-state `XX, XY, XW, XH, XPOS, XREM` (R28). -/
structure ImageIn where
  xx : BitVec 10
  xy : BitVec 9
  xw : Nat
  xh : Nat
  xpos : Nat
  xrem : Nat
  deriving DecidableEq, Repr

/-- The polyline sub-state `PLAST, PCOL, PNEXT, PPHASE` (R29). -/
structure PolyLine where
  plast : Int × Int
  pcol : Rgb
  pnext : Rgb
  pphase : BitVec 1
  deriving DecidableEq, Repr

/-- The read-out registers (R30). -/
structure ReadOut where
  ractive : Bool
  rx : BitVec 10
  ry : BitVec 9
  rw : Nat
  rh : Nat
  rpos : Nat
  rlatch : Word
  deriving DecidableEq, Repr

/-! ## Display registers -/

/-- One generation of the display configuration (R32, R33). -/
structure DisplayConfig where
  orgx : BitVec 10
  orgy : BitVec 9
  hx1 : BitVec 12
  hx2 : BitVec 12
  vy1 : BitVec 10
  vy2 : BitVec 10
  hres1 : BitVec 2
  vres : Bool
  pal : Bool
  c24 : Bool
  ilace : Bool
  hres2 : Bool
  rev : Bool
  dispoff : Bool
  deriving DecidableEq, Repr

/-! ## VRAM -/

/-- Bytes by address, in the canonical form of `Memory.wf` (Machine/Ops.lean). -/
abbrev Memory := List Host.Cell

/-- `VFMT` (R38). -/
inductive VFmt where
  | f15
  | f24
  deriving DecidableEq, Repr

/-- The four palette-cache flag bits of a cell (R39, R71, R338). -/
structure CellFlags where
  s16v : Bool
  s16 : Bool
  s256v : Bool
  s256 : Bool
  deriving DecidableEq, Repr

/-- VRAM: the native view's bytes by the byte address of R80, `VFMT`, and the tags and flags of the
cells by cell index `1024 * y + x`, listed where they differ from their default (R79; log entry 11). -/
structure Vram where
  native : Memory
  fmt : VFmt
  tags : List (Nat × BitVec 2)
  flags : List (Nat × CellFlags)
  deriving DecidableEq, Repr

/-! ## Hidden state, events, diagnostics, lock -/

/-- `Rect(x0, y0, x1, y1)`, both corners inclusive (R11). -/
structure Rect where
  x0 : Int
  y0 : Int
  x1 : Int
  y1 : Int
  deriving DecidableEq, Repr

/-- A valid entry `TPC[P][d]`, `d` = 8 or 4: the VRAM it was decoded from, of which `IDX` is a
function (R40, R331; log entry 12). An entry that is not valid is not listed. -/
structure TpcEntry where
  page : BitVec 5
  eight : Bool
  image : Memory
  deriving DecidableEq, Repr

/-- The kinds of diagnostic (R403). -/
inductive DiagKind where
  | semiPolyline
  | mod16
  deriving DecidableEq, Repr

/-- The events of the output trace (R66). -/
inductive Event where
  | initDisplay
  | acquire
  | release
  | refresh (cfg : DisplayConfig)
  | dmaDone
  | diag (kind : DiagKind)
  deriving DecidableEq, Repr

/-- `LOCK`, the holder of the VRAM lock (R44, R90). -/
inductive Lock where
  | free
  | block
  | sink
  deriving DecidableEq, Repr

/-! ## The environment -/

/-- The calls of the four agents of R13 and, between them, what the environment's own state does
(R45): the sink's lock, the clock, main memory. -/
inductive Call where
  /-- `GP0_WRITE(w)` (R60). -/
  | gp0Write (w : Word)
  /-- `GP1_WRITE(w)` (R61). -/
  | gp1Write (w : Word)
  /-- `GPUREAD()` (R62). -/
  | gpuRead
  /-- `GPUSTAT()` (R63). -/
  | gpuStat
  /-- `DMA_TRANSFER(base, blockCount, blockSize, ctrl)` (R64, R205). -/
  | dmaTransfer (base : Word) (blockCount blockSize : BitVec 16) (ctrl : Word)
  /-- `VSYNC_TICK` (R65). -/
  | vsyncTick
  /-- The sink takes the lock, if it is free (R90). -/
  | sinkAcquire
  /-- The sink releases the lock it holds (R90). -/
  | sinkRelease
  /-- `NOW()` grows by `dt` nanoseconds (R65). -/
  | clock (dt : Nat)
  /-- A byte of main memory is mapped and written by another agent (R45, R70). -/
  | memStore (addr : BitVec 24) (byte : Byte)
  /-- A byte address of main memory loses its mapping (R212). -/
  | memUnmap (addr : BitVec 24)
  deriving DecidableEq, Repr

/-! ## The state -/

/-- The state of the block, and after it the environment's (the last four fields). -/
structure State where
  /-- `DM` (R21). -/
  dm : DrawMode
  /-- `TW` (R22). -/
  tw : TexWindow
  /-- `CLIP` (R23). -/
  clip : ClipRect
  /-- `OFS` (R24). -/
  ofs : DrawOffset
  /-- `MSK` (R25). -/
  msk : MaskMode
  /-- `DSTATE` (R27). -/
  dstate : DState
  /-- `CBUF[0 .. 11]` (R27). -/
  cbuf : List Word
  /-- `CLEN` (R27). -/
  clen : Nat
  /-- `CTARGET` (R27). -/
  ctarget : Nat
  /-- `XKIND` (R27). -/
  xkind : XKind
  /-- The image-in sub-state (R28). -/
  img : ImageIn
  /-- The polyline sub-state (R29). -/
  pline : PolyLine
  /-- The read-out registers (R30). -/
  rd : ReadOut
  /-- `PEND` (R32). -/
  pend : DisplayConfig
  /-- `CUR` (R33). -/
  cur : DisplayConfig
  /-- `DMADIR` (R34). -/
  dmadir : BitVec 2
  /-- `FIELD` (R35). -/
  field : Bool
  /-- `VRAM`, `VFMT`, tags and flags (R37 to R39). -/
  vram : Vram
  /-- The valid entries of `TPC` (R40). -/
  tpc : List TpcEntry
  /-- `DIRTY` (R42). -/
  dirty : Option Rect
  /-- `PENDING_DIRTY` (R42). -/
  pendingDirty : Bool
  /-- `T_ANY` in nanoseconds (R42). -/
  tAny : Nat
  /-- `T_DIRTY` in nanoseconds (R42). -/
  tDirty : Nat
  /-- `DIAG[SEMI_POLYLINE]` (R43). -/
  diagSemiPolyline : Bool
  /-- `DIAG[MOD16]` (R43, R403; log entry 21). -/
  diagMod16 : Bool
  /-- `LOCK` (R44). -/
  lock : Lock
  /-- The output trace, oldest event first (R66). -/
  trace : List Event
  /-- The model's own: the calls still to be made, in the order they arrive (log entry 3). -/
  calls : List Call
  /-- The model's own: what `NOW()` answers (log entry 8). -/
  now : Nat
  /-- The model's own: the mapped bytes of main memory (log entry 9). -/
  mainMem : Memory
  /-- The model's own: the values the read ports have returned, oldest first (R417; log entry 17). -/
  returns : List Word
  deriving DecidableEq, Repr

/-! ## Faults and refusals -/

/-- Why a step stops for good. -/
inductive Fault where
  /-- A linked-list `DMA_TRANSFER` that never reaches its end marker: the call never returns and the
  block is stuck (R211, R416). Raised by the list walk alone, where `LIST_FUEL` is none. Safe: exactly
  the walks that never end stop here (log entry 6). -/
  | listNeverEnds
  /-- The report that a linked-list `DMA_TRANSFER` has walked `LIST_FUEL` nodes without reaching its end, be
  the list endless or only longer (R211, R416). Raised by the list walk alone, where `LIST_FUEL` is a number.
  Safe: the model stops and says that its bound is what stopped it (log entry 6). -/
  | listFuelExhausted
  deriving DecidableEq, Repr

/-- Why an instruction has no meaning. -/
inductive Refusal where
  /-- The instruction is not modelled. No arm of `exec` answers so: the model refuses nothing (R416).
  Safe. -/
  | notModelled (mnemonic : String)
  deriving DecidableEq, Repr

/-! ## Power-on -/

/-- `DM` after reset (R21). -/
def DrawMode.reset : DrawMode := ⟨0#4, 0#1, 0#2, 0#2, false, false⟩

/-- `TW` after reset (R22). -/
def TexWindow.reset : TexWindow := ⟨0#5, 0#5, 0#5, 0#5⟩

/-- `CLIP` after reset: exactly the cell (0, 0) (R23). -/
def ClipRect.reset : ClipRect := ⟨0#10, 0#9, 0#10, 0#9⟩

/-- `OFS` after reset (R24). -/
def DrawOffset.reset : DrawOffset := ⟨0#11, 0#11⟩

/-- `MSK` after reset (R25). -/
def MaskMode.reset : MaskMode := ⟨false, false⟩

/-- The display configuration after reset (R32). -/
def DisplayConfig.reset : DisplayConfig :=
  { orgx := 0#10, orgy := 0#9, hx1 := 0x200#12, hx2 := 0xC00#12, vy1 := 0x010#10, vy2 := 0x100#10,
    hres1 := 0#2, vres := false, pal := false, c24 := false, ilace := false, hres2 := false,
    rev := false, dispoff := true }

/-- Black, the value the model names for colour registers the spec leaves unspecified (log entry 2). -/
def black : Rgb := ⟨0#8, 0#8, 0#8⟩

/-- Power-on reset with this native view of VRAM and this reading of `NOW()` (R430). `CBUF`, `CTARGET`,
`XKIND` and the sub-states are unspecified by R433 and take the values of log entry 2 (DESIGN CHOICE). -/
def State.powerOn (native : Memory) (now : Nat) : State :=
  { dm := .reset, tw := .reset, clip := .reset, ofs := .reset, msk := .reset,
    dstate := .idle, cbuf := List.replicate 12 0#32, clen := 0, ctarget := 1, xkind := .imageIn,
    img := ⟨0#10, 0#9, 1, 1, 0, 1⟩,
    pline := ⟨(0, 0), black, black, 0#1⟩,
    rd := ⟨false, 0#10, 0#9, 1, 1, 0, 0#32⟩,
    pend := .reset, cur := .reset, dmadir := 0#2, field := false,
    vram := ⟨native, .f15, [], []⟩,
    tpc := [], dirty := none, pendingDirty := false, tAny := now, tDirty := now,
    diagSemiPolyline := false, diagMod16 := false, lock := .free, trace := [.initDisplay],
    calls := [], now := now, mainMem := [], returns := [] }

/-- The machine right after power-on (R430), with VRAM all zero and `NOW()` at 0, both DESIGN CHOICE
(log entries 1 and 8). -/
def State.reset : State := State.powerOn [] 0

end Sys2Proof.Machine
end

