-- ==== Sys2Proof/Machine/Ops.lean ====
section
/-! DEFINITION. The named operations over the state: sparse storage, VRAM and the pixel codec (spec/20_memory.md),
main memory, rectangles (R11), the trace, the VRAM lock (R90), and the one exception, the diagnostic (R402). -/

namespace Sys2Proof.Machine

/-- What every meaning answers. -/
abbrev Out := Host.Outcome State Fault Refusal

/-- Go on from a next state; a fault or a refusal stays. -/
def andThen (o : Out) (f : State → Out) : Out :=
  match o with
  | .next s => f s
  | .fault r => .fault r
  | .refused r => .refused r

/-! ## Sparse storage: values by number -/

/-- The value listed under `a`. -/
def Sparse.get? {α : Type} (a : Nat) : List (Nat × α) → Option α
  | [] => none
  | (b, v) :: t => if b = a then some v else Sparse.get? a t

/-- List `v` under `a`, keeping rising order. -/
def Sparse.set {α : Type} (a : Nat) (v : α) : List (Nat × α) → List (Nat × α)
  | [] => [(a, v)]
  | (b, w) :: t =>
    if a < b then (a, v) :: (b, w) :: t
    else if b = a then (a, v) :: t
    else (b, w) :: Sparse.set a v t

/-- List nothing under `a`. -/
def Sparse.erase {α : Type} (a : Nat) : List (Nat × α) → List (Nat × α)
  | [] => []
  | (b, w) :: t => if b = a then Sparse.erase a t else (b, w) :: Sparse.erase a t

/-- The numbers listed rise strictly. -/
abbrev Sparse.Rising {α : Type} (l : List (Nat × α)) : Prop := (l.map Prod.fst).Pairwise (· < ·)

/-! ## Memories -/

/-- The canonical form of a memory of `size` addresses whose unlisted bytes read as `unlisted`: rising,
in range, and no entry that says what an unlisted address says. -/
def Memory.wf (unlisted : Option Byte) (size : Nat) (m : Memory) : Bool :=
  decide (Sparse.Rising m) && m.all fun c => decide (c.1 < size) && (some c.2 != unlisted)

/-- What a byte of VRAM that nothing has written reads as: 0 (R37 leaves it open; DESIGN CHOICE, unsafe,
log entry 1). -/
def vramUnlisted : Byte := 0#8

/-- A byte of the native view of VRAM, by its byte address (R80). -/
def vramByte (m : Memory) (a : Nat) : Byte := (Sparse.get? a m).getD vramUnlisted

/-- Write a byte of the native view of VRAM. -/
def vramSetByte (m : Memory) (a : Nat) (b : Byte) : Memory :=
  if b = vramUnlisted then Sparse.erase a m else Sparse.set a b m

/-- The number of byte addresses of VRAM: 1024 x 512 cells of two bytes (R37, R80). -/
def vramBytes : Nat := 1048576

/-- The number of byte addresses of main memory: 24-bit addresses (R70). -/
def mainBytes : Nat := 16777216

/-! ## Cells (R74, R75, R77, R80) -/

/-- The number of the cell at column `x & 1023`, row `y & 511` (R77). -/
def cellIndex (x y : Int) : Nat := 1024 * (y % 512).toNat + (x % 1024).toNat

/-- The native view of a cell: little-endian bytes (R80). -/
def cellOf (m : Memory) (x y : Int) : BitVec 16 :=
  vramByte m (2 * cellIndex x y + 1) ++ vramByte m (2 * cellIndex x y)

/-- Replace the native view of a cell. -/
def setCell (m : Memory) (x y : Int) (p : BitVec 16) : Memory :=
  vramSetByte (vramSetByte m (2 * cellIndex x y) (p.extractLsb' 0 8))
    (2 * cellIndex x y + 1) (p.extractLsb' 8 8)

/-- `VramRead(x, y)` (R74). -/
def Vram.read (v : Vram) (x y : Int) : BitVec 16 := cellOf v.native x y

/-- `VramWrite(x, y, p)` (R75): the native view replaced, the cell's palette flags cleared. In `F15` the tag is
0 before and after; in `F24` it stays. -/
def Vram.write (v : Vram) (x y : Int) (p : BitVec 16) : Vram :=
  { v with native := setCell v.native x y p, flags := Sparse.erase (cellIndex x y) v.flags }

/-- The mask bit of a native pixel (R12). -/
def maskBit (p : BitVec 16) : Bool := p.getLsbD 15

/-- A native pixel with `m` ORed into its mask bit. -/
def orMask (p : BitVec 16) (m : Bool) : BitVec 16 := p ||| (if m then 0x8000#16 else 0#16)

/-- `MaskedWrite(x, y, p)` under a mask mode (R76). -/
def Vram.maskedWrite (msk : MaskMode) (v : Vram) (x y : Int) (p : BitVec 16) : Vram :=
  if msk.chk && maskBit (v.read x y) then v else v.write x y (orMask p msk.set)

/-! ## Tags and flags (R39, R71, R78) -/

/-- The tag a conversion to `F24` gives the cell with this number: `1 + (x mod 3)` (R78). -/
def defaultTag (i : Nat) : BitVec 2 := BitVec.ofNat 2 (1 + i % 1024 % 3)

/-- `TAG` of a cell: 0 in `F15` (R71). -/
def Vram.tag (v : Vram) (x y : Int) : BitVec 2 :=
  match v.fmt with
  | .f15 => 0#2
  | .f24 => (Sparse.get? (cellIndex x y) v.tags).getD (defaultTag (cellIndex x y))

/-- Write `TAG` of a cell; only `F24` has tags other than 0 (R71, R195). -/
def Vram.setTag (v : Vram) (x y : Int) (t : BitVec 2) : Vram :=
  match v.fmt with
  | .f15 => v
  | .f24 =>
    if t = defaultTag (cellIndex x y) then { v with tags := Sparse.erase (cellIndex x y) v.tags }
    else { v with tags := Sparse.set (cellIndex x y) t v.tags }

/-- No flag set: what a cell whose flags are not listed has. -/
def noFlags : CellFlags := ⟨false, false, false, false⟩

/-- The four palette flags of a cell. -/
def Vram.flagsAt (v : Vram) (x y : Int) : CellFlags := (Sparse.get? (cellIndex x y) v.flags).getD noFlags

/-- Write the four palette flags of a cell. -/
def Vram.setFlags (v : Vram) (x y : Int) (f : CellFlags) : Vram :=
  if f = noFlags then { v with flags := Sparse.erase (cellIndex x y) v.flags }
  else { v with flags := Sparse.set (cellIndex x y) f v.flags }

/-! ## The pixel codec and the packed word (R71 to R73) -/

/-- `decode15(p)`: `M`, then red, green and blue in the high five bits of their bytes (R72). -/
def decode15 (p : BitVec 16) : BitVec 25 :=
  p.extractLsb' 15 1 ++ p.extractLsb' 0 5 ++ 0#3 ++ p.extractLsb' 5 5 ++ 0#3 ++ p.extractLsb' 10 5 ++ 0#3

/-- `encode15(c)` (R72). -/
def encode15 (c : BitVec 25) : BitVec 16 :=
  c.extractLsb' 24 1 ++ c.extractLsb' 3 5 ++ c.extractLsb' 11 5 ++ c.extractLsb' 19 5

/-- Bits 24:0 of a packed word, `M` and `C24`, of a native pixel in a format (R71). -/
def packPixel (f : VFmt) (p : BitVec 16) : BitVec 25 :=
  match f with
  | .f15 => decode15 p
  | .f24 => p.extractLsb' 15 1 ++ 0#8 ++ p

/-- The native pixel of bits 24:0 of a packed word (R74). -/
def unpackPixel (f : VFmt) (c : BitVec 25) : BitVec 16 :=
  match f with
  | .f15 => encode15 c
  | .f24 => c.extractLsb' 0 16

/-- The 32-bit packed word of a cell (R71; log entry 11). -/
def Vram.packed (v : Vram) (x y : Int) : BitVec 32 :=
  0#1 ++ bit (v.flagsAt x y).s256 ++ bit (v.flagsAt x y).s256v ++ bit (v.flagsAt x y).s16 ++
    bit (v.flagsAt x y).s16v ++ v.tag x y ++ packPixel v.fmt (v.read x y)

/-- `ConvertTo(f)` (R78): every native view stays, tags become those of the format, flags are cleared. -/
def Vram.convertTo (v : Vram) (f : VFmt) : Vram :=
  if v.fmt = f then v else { v with fmt := f, tags := [], flags := [] }

/-! ## Main memory (R81, R84) -/

/-- `addr & 0xFFFFFC` of an address: 24 bits, the low two cleared (R84, R205, R210). -/
def wordAddr (a : Nat) : Nat := a % mainBytes / 4 * 4

/-- `MemRead(a, 4)`, `a` already aligned; absent where one of the four bytes is not mapped (R81, R84; log entry 9). -/
def memRead (m : Memory) (a : Nat) : Option Word :=
  match Sparse.get? a m, Sparse.get? (a + 1) m, Sparse.get? (a + 2) m, Sparse.get? (a + 3) m with
  | some b0, some b1, some b2, some b3 => some (wordOfBytes b0 b1 b2 b3)
  | _, _, _, _ => none

/-- `MemWrite(a, 4, w)`, `a` already aligned (R81, R84). -/
def memWrite (m : Memory) (a : Nat) (w : Word) : Option Memory :=
  match memRead m a with
  | none => none
  | some _ =>
    some (Sparse.set (a + 3) (byteOfWord w 3) (Sparse.set (a + 2) (byteOfWord w 2)
      (Sparse.set (a + 1) (byteOfWord w 1) (Sparse.set a (byteOfWord w 0) m))))

/-! ## Rectangles (R11) -/

/-- No cell in it (R11). -/
def Rect.isEmpty (r : Rect) : Bool := decide (r.x1 < r.x0) || decide (r.y1 < r.y0)

/-- The cells of both. -/
def Rect.inter (a b : Rect) : Rect :=
  ⟨max a.x0 b.x0, max a.y0 b.y0, min a.x1 b.x1, min a.y1 b.y1⟩

/-- `A ∩ B ≠ ∅` (R11). -/
def Rect.meets (a b : Rect) : Bool :=
  !a.isEmpty && !b.isEmpty && (decide (a.x0 ≤ b.x1) && decide (b.x0 ≤ a.x1)) &&
    (decide (a.y0 ≤ b.y1) && decide (b.y0 ≤ a.y1))

/-- `bbox` of an accumulated rectangle and another (R11). -/
def bbox (acc : Option Rect) (r : Rect) : Rect :=
  match acc with
  | none => r
  | some a => ⟨min a.x0 r.x0, min a.y0 r.y0, max a.x1 r.x1, max a.y1 r.y1⟩

/-- `lo, lo + 1, ..., hi`: none when `hi < lo`. -/
def rangeII (lo hi : Int) : List Int := (List.range (hi + 1 - lo).toNat).map fun k => lo + Int.ofNat k

/-- All of VRAM. -/
def vramRect : Rect := ⟨0, 0, 1023, 511⟩

/-- `CLIP` as a rectangle (R23). -/
def ClipRect.rect (c : ClipRect) : Rect := ⟨c.x1.toNat, c.y1.toNat, c.x2.toNat, c.y2.toNat⟩

/-- A cell is inside a rectangle (R11, R23). -/
def Rect.has (r : Rect) (x y : Int) : Bool :=
  (decide (r.x0 ≤ x) && decide (x ≤ r.x1)) && (decide (r.y0 ≤ y) && decide (y ≤ r.y1))

/-! ## Trace, dirty rectangle, diagnostics, lock -/

/-- `emit e` (R66). -/
def emit (e : Event) (s : State) : State := { s with trace := s.trace ++ [e] }

/-- `DIRTY <- bbox(DIRTY, r)` (R368). -/
def addDirty (r : Rect) (s : State) : State := { s with dirty := some (bbox s.dirty r) }

/-- `DIAG[kind]` (R43). -/
def State.diag (s : State) : DiagKind → Bool
  | .semiPolyline => s.diagSemiPolyline
  | .mod16 => s.diagMod16

/-- `DIAG[kind] <- 1` (R43). -/
def setDiag (k : DiagKind) (s : State) : State :=
  match k with
  | .semiPolyline => { s with diagSemiPolyline := true }
  | .mod16 => { s with diagMod16 := true }

/-- `raise Diag(kind)`, the block's only exception (R10, R402, R408): the first time, the sticky bit is set and one
event emitted; execution continues with the caller in every case. Nothing is saved and there is no
handler and no return (R408, R409). -/
def raiseDiag (k : DiagKind) (s : State) : State := if s.diag k then s else emit (.diag k) (setDiag k s)

/-- Take the VRAM lock for the block (R90). -/
def acquireLock (s : State) : State := emit .acquire { s with lock := .block }

/-- Free the VRAM lock (R90). -/
def releaseLock (s : State) : State := emit .release { s with lock := .free }

/-- Run a VRAM-writing operation inside `acquire ... release` (R90, R145); inside a DMA call, whose lock is held
already, without (R206); while the sink holds the lock the call waits: nothing changes (R91; log entry 10). -/
def locked (f : State → State) (s : State) : State :=
  match s.lock with
  | .free => releaseLock (f (acquireLock s))
  | .block => f s
  | .sink => s

end Sys2Proof.Machine
end

