-- ==== Sys2Proof/Machine/Operands.lean ====
section
/-! DEFINITION. The operand forms of spec/30_encoding.md as the commands use them: vertices with the drawing
offset added (R115), colours (R12, R114), CLUT and page addresses (R117, R330), target rectangles (R191). -/

namespace Sys2Proof.Machine

/-- `(x, y) = Vertex(w)`: the sign-extended coordinates plus `OFS`, not wrapped (R115). -/
def vertex (ofs : DrawOffset) (v : Vtx) : Int × Int :=
  (v.x.toInt + ofs.x.toInt, v.y.toInt + ofs.y.toInt)

/-- The channels of a native pixel, 0 to 31 each (R12). -/
structure Rgb5 where
  r : Nat
  g : Nat
  b : Nat
  deriving DecidableEq, Repr

/-- `R5`, `G5`, `B5` of a native pixel (R12). -/
def rgb5Of (p : BitVec 16) : Rgb5 :=
  ⟨(p.extractLsb' 0 5).toNat, (p.extractLsb' 5 5).toNat, (p.extractLsb' 10 5).toNat⟩

/-- The native pixel `r | (g << 5) | (b << 10) | (m << 15)` (R300). -/
def pixelOf (c : Rgb5) (m : Bool) : BitVec 16 :=
  BitVec.ofNat 16 (c.r ||| c.g <<< 5 ||| c.b <<< 10 ||| (if m then 1 else 0) <<< 15)

/-- A 24-bit colour reduced by truncation, `c >> 3` per channel (R302). -/
def rgb5OfColour (r g b : Nat) : Rgb5 := ⟨r >>> 3, g >>> 3, b >>> 3⟩

/-- `to555(c)`, mask bit 0 (R12). -/
def to555 (c : Rgb) : BitVec 16 := pixelOf (rgb5OfColour c.r.toNat c.g.toNat c.b.toNat) false

/-- The column of a palette's first entry, `16 * k[5:0]` (R117). -/
def clutX (k : ClutSel) : Int := 16 * (k.cx.toNat : Int)

/-- The row of a palette, `k[14:6]` (R117). -/
def clutY (k : ClutSel) : Int := k.cy.toNat

/-- The column of a texture page, `64 * DM.TPX` (R330). -/
def pageX (tpx : BitVec 4) : Int := 64 * (tpx.toNat : Int)

/-- The row of a texture page, `256 * DM.TPY` (R330). -/
def pageY (tpy : BitVec 1) : Int := 256 * (tpy.toNat : Int)

/-- `PAGE = DM.TPY ‖ DM.TPX` (R21). -/
def pageIndex (tpx : BitVec 4) (tpy : BitVec 1) : BitVec 5 := tpy ++ tpx

/-- `TargetRect(x, y, w, h)`: the whole width or height where the transfer wraps (R191). -/
def targetRect (x y w h : Nat) : Rect :=
  { x0 := if x + w ≤ 1024 then x else 0,
    y0 := if y + h ≤ 512 then y else 0,
    x1 := if x + w ≤ 1024 then (x + w : Int) - 1 else 1023,
    y1 := if y + h ≤ 512 then (y + h : Int) - 1 else 511 }

/-- `TWU[i]` or `TWV[i]`: `((i & ~m) | (o & m)) & 31` (R22). -/
def windowEntry (m o i : BitVec 5) : BitVec 5 := (i &&& ~~~m) ||| (o &&& m)

/-- `TWU[i]` (R22). -/
def TexWindow.twu (t : TexWindow) (i : BitVec 5) : BitVec 5 := windowEntry t.mx t.ox i

/-- `TWV[i]` (R22). -/
def TexWindow.twv (t : TexWindow) (i : BitVec 5) : BitVec 5 := windowEntry t.my t.oy i

/-- `TWEN` (R22). -/
def TexWindow.enabled (t : TexWindow) : Bool := t.mx != 0#5 || t.my != 0#5

/-- One coordinate through a window table: its high five bits mapped, its low three kept (R303). -/
def windowCoord (entry : BitVec 5 → BitVec 5) (c : BitVec 8) : BitVec 8 :=
  entry (c.extractLsb' 3 5) ++ c.extractLsb' 0 3

/-- `TwMap(u, v)` (R303). -/
def TexWindow.map (t : TexWindow) (u v : BitVec 8) : BitVec 8 × BitVec 8 :=
  (windowCoord t.twu u, windowCoord t.twv v)

end Sys2Proof.Machine
end

