-- ==== Sys2Proof/Machine/Flags.lean ====
section
/-! DEFINITION. The status word and the words that read registers back: `GPUSTAT` (R360), the block's only
flags word (R36), the `G1.INFO` words (R361), and the draw mode's bits 8:0 (R224). -/

namespace Sys2Proof.Machine

/-- Bits 10:0 of `DM` as E1 lays them out (R21, R360). -/
def DrawMode.bits (d : DrawMode) : BitVec 11 :=
  bit d.dfe ++ bit d.dtd ++ d.tdepth ++ d.abr ++ d.tpy ++ d.tpx

/-- `GPUSTAT[13]`: the field parity when interlaced, else 1 (R360). -/
def statField (ilace field : Bool) : Bool := if ilace then field else true

/-- `GPUSTAT()`: assembled from `DM`, `MSK`, `PEND`, `DMADIR` and `FIELD` at each read, bit 31 first (R360). -/
def State.gpuStat (s : State) : Word :=
  bit s.field ++ s.dmadir ++ 0b111#3 ++ bit (s.dmadir != 0#2) ++ 0#1 ++
    bit s.pend.dispoff ++ bit s.pend.ilace ++ bit s.pend.c24 ++ bit s.pend.pal ++ bit s.pend.vres ++
    s.pend.hres1 ++ bit s.pend.hres2 ++ 0#1 ++ bit s.pend.rev ++
    bit (statField s.pend.ilace s.field) ++ bit s.msk.chk ++ bit s.msk.set ++ s.dm.bits

/-- The value `G1.INFO` latches for an index; none for indices 0, 1 and 6 (R361). -/
def State.infoWord (s : State) (i : BitVec 3) : Option Word :=
  match i.toNat with
  | 2 => some (0#12 ++ s.tw.oy ++ s.tw.ox ++ s.tw.my ++ s.tw.mx)
  | 3 => some (0#13 ++ s.clip.y1 ++ s.clip.x1)
  | 4 => some (0#13 ++ s.clip.y2 ++ s.clip.x2)
  | 5 => some (0#10 ++ s.ofs.y ++ s.ofs.x)
  | 7 => some Config.gpuVersionWord
  | _ => none

/-- Bits 8:0 of `DM` replaced by a page attribute; `DTD` and `DFE` keep their values (R224). -/
def DrawMode.withPage (d : DrawMode) (a : PageAttr) : DrawMode :=
  { d with tpx := a.tpx, tpy := a.tpy, abr := a.abr, tdepth := a.tdepth }

end Sys2Proof.Machine
end

