-- ==== Sys2Proof/Machine/Display.lean ====
section
/-! DEFINITION. The read ports and the DisplayTimingController (spec/48_display_control.md R360 to R377). -/

namespace Sys2Proof.Machine

/-! ## GPUREAD (R362) -/

/-- The pixel at a read-out position (R362). -/
def readPixel (vr : Vram) (rd : ReadOut) (pos : Nat) : BitVec 16 :=
  vr.read (rd.rx.toNat + pos % rd.rw : Nat) (rd.ry.toNat + pos / rd.rw : Nat)

/-- The half word at a read-out position: 0 beyond the last pixel (R82, R362). -/
def readHalf (vr : Vram) (rd : ReadOut) (pos : Nat) : BitVec 16 :=
  if pos < rd.rw * rd.rh then readPixel vr rd pos else 0#16

/-- The word a read returns while a read-out is in progress (R362). -/
def readWord (vr : Vram) (rd : ReadOut) : Word := readHalf vr rd (rd.rpos + 1) ++ readHalf vr rd rd.rpos

/-- `RPOS` after such a read (R362). -/
def readAdvance (rd : ReadOut) : Nat := if rd.rpos + 1 < rd.rw * rd.rh then rd.rpos + 2
  else if rd.rpos < rd.rw * rd.rh then rd.rpos + 1 else rd.rpos

/-- `GPUREAD()`: the value and the registers after it (R362). -/
def gpuRead (s : State) : Word × State :=
  if s.rd.ractive then
    (readWord s.vram s.rd,
      { s with rd := { s.rd with rpos := readAdvance s.rd, rlatch := readWord s.vram s.rd,
                                 ractive := decide (readAdvance s.rd ≠ s.rd.rw * s.rd.rh) } })
  else (s.rd.rlatch, s)

/-! ## The visible rectangle (R364) -/

/-- `DIV(cfg)` (R32, R364). -/
def DisplayConfig.div (c : DisplayConfig) : Nat :=
  if c.hres2 then 7
  else match c.hres1.toNat with
    | 0 => 10
    | 1 => 8
    | 2 => 5
    | _ => 4

/-- The displayed pixels of a line, `((HX2 - HX1) div DIV + 2) & ~3` (R364). -/
def DisplayConfig.pixels (c : DisplayConfig) : Nat :=
  if c.hx2.toNat > c.hx1.toNat then ((c.hx2.toNat - c.hx1.toNat) / c.div + 2) / 4 * 4 else 0

/-- The visible width in cells (R364). -/
def DisplayConfig.width (c : DisplayConfig) : Nat := if c.c24 then c.pixels * 3 / 2 else c.pixels

/-- The visible height in cells (R364). -/
def DisplayConfig.height (c : DisplayConfig) : Nat :=
  if c.vy2.toNat > c.vy1.toNat then (c.vy2.toNat - c.vy1.toNat) * (if c.vres && c.ilace then 2 else 1) else 0

/-- `Visible(cfg)`; no wrap: what lies beyond the edges contains no cell (R364). -/
def DisplayConfig.visible (c : DisplayConfig) : Rect :=
  Rect.inter ⟨c.orgx.toNat, c.orgy.toNat, (c.orgx.toNat : Int) + c.width - 1,
    (c.orgy.toNat : Int) + c.height - 1⟩ vramRect

/-! ## Decision points (R370 to R374) -/

/-- `Changed(a, b)`: a format field differs; the origin is not compared (R372). -/
def changed (a b : DisplayConfig) : Bool := decide ({ a with orgx := b.orgx, orgy := b.orgy } ≠ b)

/-- `Promote(t)` (R373). -/
def promote (t : Nat) (s : State) : State :=
  emit (.refresh s.pend) { s with cur := s.pend, pendingDirty := false, tAny := t, tDirty := t }

/-- `PENDING_DIRTY` after the test of a decision (R371). -/
def nextPending (s : State) : Bool :=
  s.pendingDirty ||
    match s.dirty with
    | none => false
    | some r => r.meets s.pend.visible

/-- The decision to refresh under two intervals (R371). -/
def wantsRefresh (tDirtyNs tLiveNs : Nat) (s : State) : Bool :=
  changed s.cur s.pend || (nextPending s && decide (s.now - s.tDirty ≥ tDirtyNs)) ||
    decide (s.now - s.tAny ≥ tLiveNs)

/-- `Decide()` under two intervals (R371). -/
def decideWith (tDirtyNs tLiveNs : Nat) (s : State) : State :=
  if wantsRefresh tDirtyNs tLiveNs s then promote s.now { s with dirty := none, pendingDirty := nextPending s }
  else { s with dirty := none, pendingDirty := nextPending s }

/-- `Decide()` (R371) under `T_DIRTY_NS` and `T_LIVE_NS` (R374). -/
def decideRefresh (s : State) : State := decideWith Config.tDirtyNs Config.tLiveNs s

/-- `VSYNC_TICK`: the toggle first (R370). -/
def vsyncTick (s : State) : State := decideRefresh { s with field := !s.field }

end Sys2Proof.Machine
end

