-- ==== Sys2Proof/Machine/Pixel.lean ====
section
/-! DEFINITION. The pixel pipeline (spec/46_pixel_pipeline.md R300 to R312): texel fetch, modulation, mask check,
blend, mask set, write. -/

namespace Sys2Proof.Machine

/-- The render mode of one draw, read once after the command's own write of `DM` (R220). The flag `solid` never
changes a result and is left out of it (R310, R339; log entry 14). -/
structure RenderMode where
  textured : Bool
  raw : Bool
  semi : Bool
  clut : ClutSel
  tpx : BitVec 4
  tpy : BitVec 1
  tdepth : BitVec 2
  abr : BitVec 2
  tw : TexWindow
  chk : Bool
  set : Bool
  deriving DecidableEq, Repr

/-- One covered cell with its draw colour (0 to 255 a channel) and texel coordinate (R225, R300). -/
structure Pixel where
  x : Int
  y : Int
  r : Nat
  g : Nat
  b : Nat
  u : BitVec 8
  v : BitVec 8
  deriving DecidableEq, Repr

/-- Entry `i` of a palette (R117, R304). -/
def clutEntry (vr : Vram) (k : ClutSel) (i : Nat) : BitVec 16 := vr.read (clutX k + i) (clutY k)

/-- The index of texel `(u, v)` of a 4-bit page: nibble `u[1:0]` of its cell (R304, R330). -/
def index4 (m : Memory) (px py : Int) (u v : BitVec 8) : Nat :=
  ((cellOf m (px + (u.toNat / 4 : Nat)) (py + v.toNat)).toNat >>> (4 * (u.toNat % 4))) % 16

/-- The index of texel `(u, v)` of an 8-bit page: byte `u[0]` of its cell (R304, R330). -/
def index8 (m : Memory) (px py : Int) (u v : BitVec 8) : Nat :=
  ((cellOf m (px + (u.toNat / 2 : Nat)) (py + v.toNat)).toNat >>> (8 * (u.toNat % 2))) % 256

/-- `Texel(u, v, clut)` at a mapped texel coordinate, uncached (R304); depth 3 acts as 2. -/
def texelAt (m : RenderMode) (vr : Vram) (u v : BitVec 8) : BitVec 16 :=
  match m.tdepth.toNat with
  | 0 => clutEntry vr m.clut (index4 vr.native (pageX m.tpx) (pageY m.tpy) u v)
  | 1 => clutEntry vr m.clut (index8 vr.native (pageX m.tpx) (pageY m.tpy) u v)
  | _ => vr.read (pageX m.tpx + u.toNat) (pageY m.tpy + v.toNat)

/-- `Texel(u, v, clut)` (R303, R304). -/
def texel (m : RenderMode) (vr : Vram) (u v : BitVec 8) : BitVec 16 :=
  texelAt m vr (m.tw.map u v).1 (m.tw.map u v).2

/-- Modulation of one channel: `min(31, (c * k) >> 7)` (R305). -/
def modulate (c k : Nat) : Nat := min 31 ((c * k) >>> 7)

/-- Modulation of a texel's colour by the draw colour (R305). -/
def modulateRgb (c : Rgb5) (r g b : Nat) : Rgb5 := ⟨modulate c.r r, modulate c.g g, modulate c.b b⟩

/-- `Blend(abr, B, F)` of one channel (R308). Subtraction of naturals stops at 0, as the clamp asks. -/
def blend (abr : BitVec 2) (dst src : Nat) : Nat :=
  match abr.toNat with
  | 0 => (dst + src) >>> 1
  | 1 => min 31 (dst + src)
  | 2 => dst - src
  | _ => min 31 (dst + src >>> 2)

/-- `Blend` of three channels (R308). -/
def blendRgb (abr : BitVec 2) (dst src : Rgb5) : Rgb5 :=
  ⟨blend abr dst.r src.r, blend abr dst.g src.g, blend abr dst.b src.b⟩

/-- Steps (1) to (3) of `Plot` on a fetched texel: none where it is transparent, else the colour and `sm` (R300). -/
def texelSource (m : RenderMode) (t : BitVec 16) (p : Pixel) : Option (Rgb5 × Bool) :=
  if t = 0#16 then none
  else some (if m.raw then rgb5Of t else modulateRgb (rgb5Of t) p.r p.g p.b, maskBit t)

/-- The source colour and source mask bit of a pixel; none where its texel is transparent (R300, R302). -/
def source (m : RenderMode) (vr : Vram) (p : Pixel) : Option (Rgb5 × Bool) :=
  if m.textured then texelSource m (texel m vr p.u p.v) p
  else some (rgb5OfColour p.r p.g p.b, false)

/-- Step (5): the colour after blending with a destination, where the pixel is blended (R308). -/
def blended (m : RenderMode) (dst : BitVec 16) (c : Rgb5) (sm : Bool) : Rgb5 :=
  if m.semi && (!m.textured || sm) then blendRgb m.abr (rgb5Of dst) c else c

/-- The native value a pixel writes over a destination (R300 steps 5 to 7, R309). -/
def plotValue (m : RenderMode) (dst : BitVec 16) (c : Rgb5) (sm : Bool) : BitVec 16 :=
  pixelOf (blended m dst c sm) (sm || m.set)

/-- `Plot(x, y, src)` (R300). -/
def plot (m : RenderMode) (vr : Vram) (p : Pixel) : Vram :=
  match source m vr p with
  | none => vr
  | some (c, sm) =>
    if m.chk && maskBit (vr.read p.x p.y) then vr
    else vr.write p.x p.y (plotValue m (vr.read p.x p.y) c sm)

/-- The pixels of a draw plotted in order, each seeing every earlier write (R88, R227, R265). -/
def plotAll (m : RenderMode) (vr : Vram) (ps : List Pixel) : Vram := ps.foldl (plot m) vr

/-- The render mode of a draw under the state's registers (R220). -/
def State.mode (s : State) (textured raw semi : Bool) (clut : ClutSel) : RenderMode :=
  { textured := textured, raw := raw, semi := semi, clut := clut,
    tpx := s.dm.tpx, tpy := s.dm.tpy, tdepth := s.dm.tdepth, abr := s.dm.abr, tw := s.tw,
    chk := s.msk.chk, set := s.msk.set }

end Sys2Proof.Machine
end

