-- ==== Sys2Proof/Machine/Caches.lean ====
section
/-! DEFINITION. The hidden state of the TexturePageCache and the PaletteCache (spec/47_texture_caches.md R330 to
R342): what is valid, what a draw decodes, what a write invalidates. Texels are fetched uncached (R304), as
R94 and R339 allow, so nothing here changes a result. -/

namespace Sys2Proof.Machine

/-! ## Texture pages -/

/-- The width of an indexed page in cells: 128 at depth 8, 64 at depth 4 (R330). -/
def pageWidth (eight : Bool) : Int := if eight then 128 else 64

/-- `rect ∩ Footprint(P, d) ≠ ∅` for a rectangle inside VRAM; the footprint's columns wrap modulo 1024 (R330, R333). -/
def footprintMeets (e : TpcEntry) (r : Rect) : Bool :=
  r.meets ⟨pageX (e.page.extractLsb' 0 4), pageY (e.page.extractLsb' 4 1),
      pageX (e.page.extractLsb' 0 4) + pageWidth e.eight - 1, pageY (e.page.extractLsb' 4 1) + 255⟩ ||
    r.meets ⟨pageX (e.page.extractLsb' 0 4) - 1024, pageY (e.page.extractLsb' 4 1),
      pageX (e.page.extractLsb' 0 4) + pageWidth e.eight - 1025, pageY (e.page.extractLsb' 4 1) + 255⟩

/-- `IDX[v][u]` of a valid entry: decoded from the VRAM of the moment it became valid (R331; log entry 12). -/
def TpcEntry.idx (e : TpcEntry) (u v : BitVec 8) : Nat :=
  if e.eight then index8 e.image (pageX (e.page.extractLsb' 0 4)) (pageY (e.page.extractLsb' 4 1)) u v
  else index4 e.image (pageX (e.page.extractLsb' 0 4)) (pageY (e.page.extractLsb' 4 1)) u v

/-- `TPC[P][d].VALID` (R40). -/
def tpcValid (t : List TpcEntry) (page : BitVec 5) (eight : Bool) : Bool :=
  t.any fun e => e.page == page && e.eight == eight

/-- Decode of a page on first use (R331). -/
def decodePage (page : BitVec 5) (eight : Bool) (s : State) : State :=
  if tpcValid s.tpc page eight then s
  else { s with tpc := s.tpc ++ [⟨page, eight, s.vram.native⟩] }

/-! ## Palettes -/

/-- `Solid(clut, n)`: no entry of the palette is transparent (R338). -/
def paletteSolid (vr : Vram) (k : ClutSel) (n : Nat) : Bool :=
  (List.range n).all fun i => clutEntry vr k i != 0#16

/-- The flags of a palette's first cell with the flag for `n` resolved (R338). -/
def solidFlags (f : CellFlags) (eight solid : Bool) : CellFlags :=
  if eight then { f with s256v := true, s256 := solid } else { f with s16v := true, s16 := solid }

/-- The valid bit for a palette size (R338). -/
def solidValid (f : CellFlags) (eight : Bool) : Bool := if eight then f.s256v else f.s16v

/-- The solid flag resolved at the start of a draw at depth 4 or 8 (R338). -/
def resolveSolid (k : ClutSel) (eight : Bool) (vr : Vram) : Vram :=
  if solidValid (vr.flagsAt (clutX k) (clutY k)) eight then vr
  else vr.setFlags (clutX k) (clutY k)
    (solidFlags (vr.flagsAt (clutX k) (clutY k)) eight (paletteSolid vr k (if eight then 256 else 16)))

/-- What a textured draw does to the caches before its first pixel: nothing at 16 bits (R331, R338; log entry 14). -/
def beginTexture (k : ClutSel) (s : State) : State :=
  match s.dm.tdepth.toNat with
  | 0 => decodePage (pageIndex s.dm.tpx s.dm.tpy) false { s with vram := resolveSolid k false s.vram }
  | 1 => decodePage (pageIndex s.dm.tpx s.dm.tpy) true { s with vram := resolveSolid k true s.vram }
  | _ => s

/-! ## Invalidation -/

/-- A palette of `n` entries whose first cell is at column `x` has an entry in columns `x0` to `x1`: its first cell is
inside, or at most `n - 1` columns to the left, modulo 1024 (R338 as C3 of spec/90_conflicts.md reads it; log entry 13). -/
def paletteReaches (n : Int) (r : Rect) (x : Int) : Bool :=
  (decide (r.x0 ≤ x) && decide (x ≤ r.x1)) || decide ((r.x0 - x) % 1024 < n)

/-- The flags of the cell with number `i` after `Invalidate(r)` (R338). -/
def invalidFlags (r : Rect) (i : Nat) (f : CellFlags) : CellFlags :=
  if decide (r.y0 ≤ (i / 1024 : Nat)) && decide (((i / 1024 : Nat) : Int) ≤ r.y1) then
    { f with s16v := f.s16v && !paletteReaches 16 r ((i % 1024 : Nat) : Int),
             s256v := f.s256v && !paletteReaches 256 r ((i % 1024 : Nat) : Int) }
  else f

/-- The listed flags after `Invalidate(r)`; a cell left without a flag is no longer listed. -/
def invalidateFlags (r : Rect) : List (Nat × CellFlags) → List (Nat × CellFlags)
  | [] => []
  | (i, f) :: t =>
    if invalidFlags r i f = noFlags then invalidateFlags r t
    else (i, invalidFlags r i f) :: invalidateFlags r t

/-- `Invalidate(rect)` (R333, R338). -/
def invalidate (r : Rect) (s : State) : State :=
  { s with tpc := s.tpc.filter (fun e => !footprintMeets e r),
           vram := { s.vram with flags := invalidateFlags r s.vram.flags } }

/-- `for every P, d: TPC[P][d].VALID <- 0` (R334, R335). -/
def flushPages (s : State) : State := { s with tpc := [] }

/-- What every VRAM-writing operation does after its last write: `Invalidate(r)`, then `DIRTY <- bbox(DIRTY, r)`
(R145, R368). -/
def report (r : Rect) (s : State) : State := addDirty r (invalidate r s)

/-- The report of a primitive, whose rectangle may be empty (R242, R261). -/
def reportIfAny (r : Rect) (s : State) : State := if r.isEmpty then s else report r s

/-! ## The start of a draw -/

/-- `RAW` as the draw uses it: a variant without 16-bit modulation draws such textures raw (R306; log entry 21). -/
def effectiveRaw (textured raw : Bool) (s : State) : Bool :=
  raw || (textured && decide (2 ≤ s.dm.tdepth.toNat) && !Config.mod16Implemented)

/-- The diagnostic of that variant, never raised in the configuration of the spec (R306, R403). -/
def mod16Check (textured raw : Bool) (s : State) : State :=
  if textured && !raw && decide (2 ≤ s.dm.tdepth.toNat) && !Config.mod16Implemented then raiseDiag .mod16 s
  else s

/-- Draw the pixels of a primitive under the registers as they are (R220, R300). -/
def drawPixels (textured raw semi : Bool) (clut : ClutSel) (ps : List Pixel) (s : State) : State :=
  { s with vram := plotAll (s.mode textured (effectiveRaw textured raw s) semi clut) s.vram ps }

/-- Prepare the caches where the draw is textured, then draw. -/
def drawPrimitive (textured raw semi : Bool) (clut : ClutSel) (ps : List Pixel) (s : State) : State :=
  drawPixels textured raw semi clut ps (if textured then beginTexture clut s else s)

end Sys2Proof.Machine
end

