-- ==== Sys2Proof/Machine/Transfer.lean ====
section
/-! DEFINITION. FILL, VRAM copies and image transfers (spec/42_transfers.md R190 to R199) and the meaning of
their commands. -/

namespace Sys2Proof.Machine

/-- The offsets `(i, j)` of a `w` by `h` block, row-major (R190, R192). -/
def blockOffsets (w h : Nat) : List (Nat × Nat) :=
  (List.range h).flatMap fun j => (List.range w).map fun i => (i, j)

/-! ## FILL (R190) -/

/-- The cells of a block overwritten by one native value, whatever the mask mode (R190). -/
def fillBlock (p : BitVec 16) (x y w h : Nat) (vr : Vram) : Vram :=
  (blockOffsets w h).foldl (fun vr ij => vr.write (x + ij.1 : Nat) (y + ij.2 : Nat) p) vr

/-- `FILL` (R190). -/
def fill (o : Fill) (s : State) : State :=
  if o.w = 0 ∨ o.h.toNat = 0 then s
  else report (targetRect o.x o.y.toNat o.w o.h.toNat)
    { s with vram := fillBlock (to555 o.c0) o.x o.y.toNat o.w o.h.toNat s.vram }

/-! ## VCOPY (R192) -/

/-- The copy of a block: every source cell read from the VRAM as it was before the first write (R192, R193). -/
def copyBlock (msk : MaskMode) (o : Copy) (vr : Vram) : Vram :=
  (blockOffsets o.w o.h).foldl
    (fun acc ij => acc.maskedWrite msk (o.dx.toNat + ij.1 : Nat) (o.dy.toNat + ij.2 : Nat)
      (vr.read (o.sx.toNat + ij.1 : Nat) (o.sy.toNat + ij.2 : Nat))) vr

/-- `VCOPY` (R192). -/
def vcopy (o : Copy) (s : State) : State :=
  report (targetRect o.dx.toNat o.dy.toNat o.w o.h) { s with vram := copyBlock s.msk o s.vram }

/-! ## Image-in (R194 to R197) -/

/-- The format `FormatSwitch` asks for (R196). -/
def wantedFormat (c24 : Bool) (width : Nat) : VFmt := if c24 && decide (width % 6 = 0) then .f24 else .f15

/-- `FormatSwitch(width)`: a switch also clears every page's valid bit (R196, R334). -/
def formatSwitch (width : Nat) (s : State) : State :=
  if wantedFormat s.pend.c24 width = s.vram.fmt then s
  else flushPages { s with vram := s.vram.convertTo (wantedFormat s.pend.c24 width) }

/-- The number of data words of a transfer of `w * h` pixels (R125). -/
def dataWords (w h : Nat) : Nat := (w * h + 1) / 2

/-- `IMGIN` (R194). -/
def imageIn (o : Xfer) (s : State) : State :=
  { formatSwitch o.w s with
    img := ⟨o.x, o.y, o.w, o.h, 0, dataWords o.w o.h⟩, xkind := .imageIn, dstate := .extraData }

/-- The target rectangle of an image-in (R195). -/
def ImageIn.target (i : ImageIn) : Rect := targetRect i.xx.toNat i.xy.toNat i.xw i.xh

/-- The ranges of R28: what every image-in that a dispatch opened keeps. The spec does not say which sub-states R147
and R406 call inconsistent; the model takes those out of these ranges to be so, and no others: one whose `XREM` does
not fit its `XPOS` goes on (DESIGN CHOICE, log entry 16). -/
def ImageIn.consistent (i : ImageIn) : Bool :=
  (decide (1 ≤ i.xw) && decide (i.xw ≤ 1024)) && (decide (1 ≤ i.xh) && decide (i.xh ≤ 512)) &&
    (decide (i.xpos ≤ i.xw * i.xh) && decide (1 ≤ i.xrem))

/-- The next pixel of an image-in stored and, in `F24`, its cell tagged by its position in the row, whether or not the
mask let it through (R195, R197). -/
def storePixel (msk : MaskMode) (i : ImageIn) (p : BitVec 16) (vr : Vram) : Vram :=
  (vr.maskedWrite msk (i.xx.toNat + i.xpos % i.xw : Nat) (i.xy.toNat + i.xpos / i.xw : Nat) p).setTag
    (i.xx.toNat + i.xpos % i.xw : Nat) (i.xy.toNat + i.xpos / i.xw : Nat)
    (BitVec.ofNat 2 (1 + i.xpos % i.xw % 3))

/-- One half of a data word; a half beyond the last pixel is dropped (R195). -/
def imageHalf (p : BitVec 16) (s : State) : State :=
  if s.img.xpos < s.img.xw * s.img.xh then
    { s with vram := storePixel s.msk s.img p s.vram, img := { s.img with xpos := s.img.xpos + 1 } }
  else s

/-- The count of data words down by one, and the end of the transfer at 0 (R195). -/
def imageCount (s : State) : State :=
  if s.img.xrem - 1 = 0 then
    report s.img.target { s with img := { s.img with xrem := s.img.xrem - 1 }, dstate := .idle }
  else { s with img := { s.img with xrem := s.img.xrem - 1 } }

/-- `ImageInWord(w)` (R195); an inconsistent sub-state drops the word (R147). -/
def imageInWord (w : Word) (s : State) : State :=
  if s.img.consistent then imageCount (imageHalf (field w 16 16) (imageHalf (field w 0 16) s))
  else { s with dstate := .idle }

/-- The report of an image-in that GP1 00 or 01 ends (R198, R351, R352). -/
def reportAborted (s : State) : State :=
  if s.dstate = .extraData ∧ s.xkind = .imageIn then report s.img.target s else s

/-! ## Image-out (R199) -/

/-- `IMGOUT` (R199). -/
def imageOut (o : Xfer) (s : State) : State :=
  { s with rd := { s.rd with rx := o.x, ry := o.y, rw := o.w, rh := o.h, rpos := 0, ractive := true } }

/-! ## The instructions -/

/-- `FILL` (R190). -/
def execFill (o : Fill) (s : State) : Out := .next (locked (fill o) s)

/-- `VCOPY` (R192). -/
def execVcopy (o : Copy) (s : State) : Out := .next (locked (vcopy o) s)

/-- `VCOPY.x81` (R192). -/
def execVcopyX81 (o : Copy) (s : State) : Out := .next (locked (vcopy o) s)

/-- `VCOPY.x82` (R192). -/
def execVcopyX82 (o : Copy) (s : State) : Out := .next (locked (vcopy o) s)

/-- `VCOPY.x83` (R192). -/
def execVcopyX83 (o : Copy) (s : State) : Out := .next (locked (vcopy o) s)

/-- `VCOPY.x84` (R192). -/
def execVcopyX84 (o : Copy) (s : State) : Out := .next (locked (vcopy o) s)

/-- `VCOPY.x85` (R192). -/
def execVcopyX85 (o : Copy) (s : State) : Out := .next (locked (vcopy o) s)

/-- `VCOPY.x86` (R192). -/
def execVcopyX86 (o : Copy) (s : State) : Out := .next (locked (vcopy o) s)

/-- `VCOPY.x87` (R192). -/
def execVcopyX87 (o : Copy) (s : State) : Out := .next (locked (vcopy o) s)

/-- `VCOPY.x88` (R192). -/
def execVcopyX88 (o : Copy) (s : State) : Out := .next (locked (vcopy o) s)

/-- `VCOPY.x89` (R192). -/
def execVcopyX89 (o : Copy) (s : State) : Out := .next (locked (vcopy o) s)

/-- `VCOPY.x8A` (R192). -/
def execVcopyX8A (o : Copy) (s : State) : Out := .next (locked (vcopy o) s)

/-- `VCOPY.x8B` (R192). -/
def execVcopyX8B (o : Copy) (s : State) : Out := .next (locked (vcopy o) s)

/-- `VCOPY.x8C` (R192). -/
def execVcopyX8C (o : Copy) (s : State) : Out := .next (locked (vcopy o) s)

/-- `VCOPY.x8D` (R192). -/
def execVcopyX8D (o : Copy) (s : State) : Out := .next (locked (vcopy o) s)

/-- `VCOPY.x8E` (R192). -/
def execVcopyX8E (o : Copy) (s : State) : Out := .next (locked (vcopy o) s)

/-- `VCOPY.x8F` (R192). -/
def execVcopyX8F (o : Copy) (s : State) : Out := .next (locked (vcopy o) s)

/-- `VCOPY.x90` (R192). -/
def execVcopyX90 (o : Copy) (s : State) : Out := .next (locked (vcopy o) s)

/-- `VCOPY.x91` (R192). -/
def execVcopyX91 (o : Copy) (s : State) : Out := .next (locked (vcopy o) s)

/-- `VCOPY.x92` (R192). -/
def execVcopyX92 (o : Copy) (s : State) : Out := .next (locked (vcopy o) s)

/-- `VCOPY.x93` (R192). -/
def execVcopyX93 (o : Copy) (s : State) : Out := .next (locked (vcopy o) s)

/-- `VCOPY.x94` (R192). -/
def execVcopyX94 (o : Copy) (s : State) : Out := .next (locked (vcopy o) s)

/-- `VCOPY.x95` (R192). -/
def execVcopyX95 (o : Copy) (s : State) : Out := .next (locked (vcopy o) s)

/-- `VCOPY.x96` (R192). -/
def execVcopyX96 (o : Copy) (s : State) : Out := .next (locked (vcopy o) s)

/-- `VCOPY.x97` (R192). -/
def execVcopyX97 (o : Copy) (s : State) : Out := .next (locked (vcopy o) s)

/-- `VCOPY.x98` (R192). -/
def execVcopyX98 (o : Copy) (s : State) : Out := .next (locked (vcopy o) s)

/-- `VCOPY.x99` (R192). -/
def execVcopyX99 (o : Copy) (s : State) : Out := .next (locked (vcopy o) s)

/-- `VCOPY.x9A` (R192). -/
def execVcopyX9A (o : Copy) (s : State) : Out := .next (locked (vcopy o) s)

/-- `VCOPY.x9B` (R192). -/
def execVcopyX9B (o : Copy) (s : State) : Out := .next (locked (vcopy o) s)

/-- `VCOPY.x9C` (R192). -/
def execVcopyX9C (o : Copy) (s : State) : Out := .next (locked (vcopy o) s)

/-- `VCOPY.x9D` (R192). -/
def execVcopyX9D (o : Copy) (s : State) : Out := .next (locked (vcopy o) s)

/-- `VCOPY.x9E` (R192). -/
def execVcopyX9E (o : Copy) (s : State) : Out := .next (locked (vcopy o) s)

/-- `VCOPY.x9F` (R192). -/
def execVcopyX9F (o : Copy) (s : State) : Out := .next (locked (vcopy o) s)

/-- `IMGIN` (R194; the bracket: R90, log entry 24). -/
def execImgin (o : Xfer) (s : State) : Out := .next (locked (imageIn o) s)

/-- `IMGIN.xA1` (R194; the bracket: R90, log entry 24). -/
def execImginXA1 (o : Xfer) (s : State) : Out := .next (locked (imageIn o) s)

/-- `IMGIN.xA2` (R194; the bracket: R90, log entry 24). -/
def execImginXA2 (o : Xfer) (s : State) : Out := .next (locked (imageIn o) s)

/-- `IMGIN.xA3` (R194; the bracket: R90, log entry 24). -/
def execImginXA3 (o : Xfer) (s : State) : Out := .next (locked (imageIn o) s)

/-- `IMGIN.xA4` (R194; the bracket: R90, log entry 24). -/
def execImginXA4 (o : Xfer) (s : State) : Out := .next (locked (imageIn o) s)

/-- `IMGIN.xA5` (R194; the bracket: R90, log entry 24). -/
def execImginXA5 (o : Xfer) (s : State) : Out := .next (locked (imageIn o) s)

/-- `IMGIN.xA6` (R194; the bracket: R90, log entry 24). -/
def execImginXA6 (o : Xfer) (s : State) : Out := .next (locked (imageIn o) s)

/-- `IMGIN.xA7` (R194; the bracket: R90, log entry 24). -/
def execImginXA7 (o : Xfer) (s : State) : Out := .next (locked (imageIn o) s)

/-- `IMGIN.xA8` (R194; the bracket: R90, log entry 24). -/
def execImginXA8 (o : Xfer) (s : State) : Out := .next (locked (imageIn o) s)

/-- `IMGIN.xA9` (R194; the bracket: R90, log entry 24). -/
def execImginXA9 (o : Xfer) (s : State) : Out := .next (locked (imageIn o) s)

/-- `IMGIN.xAA` (R194; the bracket: R90, log entry 24). -/
def execImginXAA (o : Xfer) (s : State) : Out := .next (locked (imageIn o) s)

/-- `IMGIN.xAB` (R194; the bracket: R90, log entry 24). -/
def execImginXAB (o : Xfer) (s : State) : Out := .next (locked (imageIn o) s)

/-- `IMGIN.xAC` (R194; the bracket: R90, log entry 24). -/
def execImginXAC (o : Xfer) (s : State) : Out := .next (locked (imageIn o) s)

/-- `IMGIN.xAD` (R194; the bracket: R90, log entry 24). -/
def execImginXAD (o : Xfer) (s : State) : Out := .next (locked (imageIn o) s)

/-- `IMGIN.xAE` (R194; the bracket: R90, log entry 24). -/
def execImginXAE (o : Xfer) (s : State) : Out := .next (locked (imageIn o) s)

/-- `IMGIN.xAF` (R194; the bracket: R90, log entry 24). -/
def execImginXAF (o : Xfer) (s : State) : Out := .next (locked (imageIn o) s)

/-- `IMGIN.xB0` (R194; the bracket: R90, log entry 24). -/
def execImginXB0 (o : Xfer) (s : State) : Out := .next (locked (imageIn o) s)

/-- `IMGIN.xB1` (R194; the bracket: R90, log entry 24). -/
def execImginXB1 (o : Xfer) (s : State) : Out := .next (locked (imageIn o) s)

/-- `IMGIN.xB2` (R194; the bracket: R90, log entry 24). -/
def execImginXB2 (o : Xfer) (s : State) : Out := .next (locked (imageIn o) s)

/-- `IMGIN.xB3` (R194; the bracket: R90, log entry 24). -/
def execImginXB3 (o : Xfer) (s : State) : Out := .next (locked (imageIn o) s)

/-- `IMGIN.xB4` (R194; the bracket: R90, log entry 24). -/
def execImginXB4 (o : Xfer) (s : State) : Out := .next (locked (imageIn o) s)

/-- `IMGIN.xB5` (R194; the bracket: R90, log entry 24). -/
def execImginXB5 (o : Xfer) (s : State) : Out := .next (locked (imageIn o) s)

/-- `IMGIN.xB6` (R194; the bracket: R90, log entry 24). -/
def execImginXB6 (o : Xfer) (s : State) : Out := .next (locked (imageIn o) s)

/-- `IMGIN.xB7` (R194; the bracket: R90, log entry 24). -/
def execImginXB7 (o : Xfer) (s : State) : Out := .next (locked (imageIn o) s)

/-- `IMGIN.xB8` (R194; the bracket: R90, log entry 24). -/
def execImginXB8 (o : Xfer) (s : State) : Out := .next (locked (imageIn o) s)

/-- `IMGIN.xB9` (R194; the bracket: R90, log entry 24). -/
def execImginXB9 (o : Xfer) (s : State) : Out := .next (locked (imageIn o) s)

/-- `IMGIN.xBA` (R194; the bracket: R90, log entry 24). -/
def execImginXBA (o : Xfer) (s : State) : Out := .next (locked (imageIn o) s)

/-- `IMGIN.xBB` (R194; the bracket: R90, log entry 24). -/
def execImginXBB (o : Xfer) (s : State) : Out := .next (locked (imageIn o) s)

/-- `IMGIN.xBC` (R194; the bracket: R90, log entry 24). -/
def execImginXBC (o : Xfer) (s : State) : Out := .next (locked (imageIn o) s)

/-- `IMGIN.xBD` (R194; the bracket: R90, log entry 24). -/
def execImginXBD (o : Xfer) (s : State) : Out := .next (locked (imageIn o) s)

/-- `IMGIN.xBE` (R194; the bracket: R90, log entry 24). -/
def execImginXBE (o : Xfer) (s : State) : Out := .next (locked (imageIn o) s)

/-- `IMGIN.xBF` (R194; the bracket: R90, log entry 24). -/
def execImginXBF (o : Xfer) (s : State) : Out := .next (locked (imageIn o) s)

/-- `IMGOUT` (R199). -/
def execImgout (o : Xfer) (s : State) : Out := .next (imageOut o s)

/-- `IMGOUT.xC1` (R199). -/
def execImgoutXC1 (o : Xfer) (s : State) : Out := .next (imageOut o s)

/-- `IMGOUT.xC2` (R199). -/
def execImgoutXC2 (o : Xfer) (s : State) : Out := .next (imageOut o s)

/-- `IMGOUT.xC3` (R199). -/
def execImgoutXC3 (o : Xfer) (s : State) : Out := .next (imageOut o s)

/-- `IMGOUT.xC4` (R199). -/
def execImgoutXC4 (o : Xfer) (s : State) : Out := .next (imageOut o s)

/-- `IMGOUT.xC5` (R199). -/
def execImgoutXC5 (o : Xfer) (s : State) : Out := .next (imageOut o s)

/-- `IMGOUT.xC6` (R199). -/
def execImgoutXC6 (o : Xfer) (s : State) : Out := .next (imageOut o s)

/-- `IMGOUT.xC7` (R199). -/
def execImgoutXC7 (o : Xfer) (s : State) : Out := .next (imageOut o s)

/-- `IMGOUT.xC8` (R199). -/
def execImgoutXC8 (o : Xfer) (s : State) : Out := .next (imageOut o s)

/-- `IMGOUT.xC9` (R199). -/
def execImgoutXC9 (o : Xfer) (s : State) : Out := .next (imageOut o s)

/-- `IMGOUT.xCA` (R199). -/
def execImgoutXCA (o : Xfer) (s : State) : Out := .next (imageOut o s)

/-- `IMGOUT.xCB` (R199). -/
def execImgoutXCB (o : Xfer) (s : State) : Out := .next (imageOut o s)

/-- `IMGOUT.xCC` (R199). -/
def execImgoutXCC (o : Xfer) (s : State) : Out := .next (imageOut o s)

/-- `IMGOUT.xCD` (R199). -/
def execImgoutXCD (o : Xfer) (s : State) : Out := .next (imageOut o s)

/-- `IMGOUT.xCE` (R199). -/
def execImgoutXCE (o : Xfer) (s : State) : Out := .next (imageOut o s)

/-- `IMGOUT.xCF` (R199). -/
def execImgoutXCF (o : Xfer) (s : State) : Out := .next (imageOut o s)

/-- `IMGOUT.xD0` (R199). -/
def execImgoutXD0 (o : Xfer) (s : State) : Out := .next (imageOut o s)

/-- `IMGOUT.xD1` (R199). -/
def execImgoutXD1 (o : Xfer) (s : State) : Out := .next (imageOut o s)

/-- `IMGOUT.xD2` (R199). -/
def execImgoutXD2 (o : Xfer) (s : State) : Out := .next (imageOut o s)

/-- `IMGOUT.xD3` (R199). -/
def execImgoutXD3 (o : Xfer) (s : State) : Out := .next (imageOut o s)

/-- `IMGOUT.xD4` (R199). -/
def execImgoutXD4 (o : Xfer) (s : State) : Out := .next (imageOut o s)

/-- `IMGOUT.xD5` (R199). -/
def execImgoutXD5 (o : Xfer) (s : State) : Out := .next (imageOut o s)

/-- `IMGOUT.xD6` (R199). -/
def execImgoutXD6 (o : Xfer) (s : State) : Out := .next (imageOut o s)

/-- `IMGOUT.xD7` (R199). -/
def execImgoutXD7 (o : Xfer) (s : State) : Out := .next (imageOut o s)

/-- `IMGOUT.xD8` (R199). -/
def execImgoutXD8 (o : Xfer) (s : State) : Out := .next (imageOut o s)

/-- `IMGOUT.xD9` (R199). -/
def execImgoutXD9 (o : Xfer) (s : State) : Out := .next (imageOut o s)

/-- `IMGOUT.xDA` (R199). -/
def execImgoutXDA (o : Xfer) (s : State) : Out := .next (imageOut o s)

/-- `IMGOUT.xDB` (R199). -/
def execImgoutXDB (o : Xfer) (s : State) : Out := .next (imageOut o s)

/-- `IMGOUT.xDC` (R199). -/
def execImgoutXDC (o : Xfer) (s : State) : Out := .next (imageOut o s)

/-- `IMGOUT.xDD` (R199). -/
def execImgoutXDD (o : Xfer) (s : State) : Out := .next (imageOut o s)

/-- `IMGOUT.xDE` (R199). -/
def execImgoutXDE (o : Xfer) (s : State) : Out := .next (imageOut o s)

/-- `IMGOUT.xDF` (R199). -/
def execImgoutXDF (o : Xfer) (s : State) : Out := .next (imageOut o s)

end Sys2Proof.Machine
end

