-- ==== Sys2Proof/Machine/Control.lean ====
section
/-! DEFINITION. The meaning of the GP1 commands (spec/48_display_control.md R350 to R363). -/

namespace Sys2Proof.Machine

/-- The registers `G1.RESET` rewrites (R351, R67). `CBUF`, `CTARGET`, `XKIND`, the image and polyline sub-states and
`RX`, `RY`, `RW`, `RH`, `RPOS`, which R27 to R30 leave unspecified after it, keep their values (DESIGN CHOICE, log
entry 2). -/
def softReset (s : State) : State :=
  { s with dm := .reset, tw := .reset, clip := .reset, ofs := .reset, msk := .reset, dstate := .idle, clen := 0,
           rd := { s.rd with ractive := false, rlatch := 0#32 }, pend := .reset, dmadir := 0#2, tpc := [] }

/-- `G1.RESET` (R351). -/
def execG1Reset (s : State) : Out := .next (softReset (reportAborted s))

/-- `G1.ABORT` (R352). -/
def execG1Abort (s : State) : Out := .next { reportAborted s with dstate := .idle, clen := 0 }

/-- `G1.ACK`: there is no interrupt to acknowledge (R353). -/
def execG1Ack (s : State) : Out := .next s

/-- `G1.DISPEN` (R354). -/
def execG1Dispen (o : DispEn) (s : State) : Out := .next { s with pend := { s.pend with dispoff := o.off } }

/-- `G1.DMADIR` (R355). -/
def execG1Dmadir (o : DmaDir) (s : State) : Out := .next { s with dmadir := o.dir }

/-- `G1.ORIGIN`, a decision point (R356). -/
def execG1Origin (o : Origin) (s : State) : Out :=
  .next (decideRefresh { s with pend := { s.pend with orgx := o.x, orgy := o.y } })

/-- `G1.HRANGE` (R357). -/
def execG1Hrange (o : HRange) (s : State) : Out := .next { s with pend := { s.pend with hx1 := o.x1, hx2 := o.x2 } }

/-- `G1.VRANGE` (R358). -/
def execG1Vrange (o : VRange) (s : State) : Out := .next { s with pend := { s.pend with vy1 := o.y1, vy2 := o.y2 } }

/-- `G1.MODE` (R359). -/
def execG1Mode (o : Mode) (s : State) : Out :=
  .next { s with pend := { s.pend with hres1 := o.hres1, vres := o.vres, pal := o.pal, c24 := o.c24,
                                       ilace := o.ilace, hres2 := o.hres2, rev := o.rev } }

/-- `G1.INFO`: the latch takes the register's word, or stays (R361). -/
def latchInfo (o : Info) (s : State) : State :=
  { s with rd := { s.rd with rlatch := (s.infoWord o.index).getD s.rd.rlatch } }

/-- `G1.RSVD.09`: no operation (R363). -/
def execG1Rsvd09 (s : State) : Out := .next s

/-- `G1.RSVD.0A`: no operation (R363). -/
def execG1Rsvd0A (s : State) : Out := .next s

/-- `G1.RSVD.0B`: no operation (R363). -/
def execG1Rsvd0B (s : State) : Out := .next s

/-- `G1.RSVD.0C`: no operation (R363). -/
def execG1Rsvd0C (s : State) : Out := .next s

/-- `G1.RSVD.0D`: no operation (R363). -/
def execG1Rsvd0D (s : State) : Out := .next s

/-- `G1.RSVD.0E`: no operation (R363). -/
def execG1Rsvd0E (s : State) : Out := .next s

/-- `G1.RSVD.0F`: no operation (R363). -/
def execG1Rsvd0F (s : State) : Out := .next s

/-- `G1.INFO` (R361). -/
def execG1Info (o : Info) (s : State) : Out := .next (latchInfo o s)

/-- `G1.INFO.x11` (R361). -/
def execG1InfoX11 (o : Info) (s : State) : Out := .next (latchInfo o s)

/-- `G1.INFO.x12` (R361). -/
def execG1InfoX12 (o : Info) (s : State) : Out := .next (latchInfo o s)

/-- `G1.INFO.x13` (R361). -/
def execG1InfoX13 (o : Info) (s : State) : Out := .next (latchInfo o s)

/-- `G1.INFO.x14` (R361). -/
def execG1InfoX14 (o : Info) (s : State) : Out := .next (latchInfo o s)

/-- `G1.INFO.x15` (R361). -/
def execG1InfoX15 (o : Info) (s : State) : Out := .next (latchInfo o s)

/-- `G1.INFO.x16` (R361). -/
def execG1InfoX16 (o : Info) (s : State) : Out := .next (latchInfo o s)

/-- `G1.INFO.x17` (R361). -/
def execG1InfoX17 (o : Info) (s : State) : Out := .next (latchInfo o s)

/-- `G1.INFO.x18` (R361). -/
def execG1InfoX18 (o : Info) (s : State) : Out := .next (latchInfo o s)

/-- `G1.INFO.x19` (R361). -/
def execG1InfoX19 (o : Info) (s : State) : Out := .next (latchInfo o s)

/-- `G1.INFO.x1A` (R361). -/
def execG1InfoX1A (o : Info) (s : State) : Out := .next (latchInfo o s)

/-- `G1.INFO.x1B` (R361). -/
def execG1InfoX1B (o : Info) (s : State) : Out := .next (latchInfo o s)

/-- `G1.INFO.x1C` (R361). -/
def execG1InfoX1C (o : Info) (s : State) : Out := .next (latchInfo o s)

/-- `G1.INFO.x1D` (R361). -/
def execG1InfoX1D (o : Info) (s : State) : Out := .next (latchInfo o s)

/-- `G1.INFO.x1E` (R361). -/
def execG1InfoX1E (o : Info) (s : State) : Out := .next (latchInfo o s)

/-- `G1.INFO.x1F` (R361). -/
def execG1InfoX1F (o : Info) (s : State) : Out := .next (latchInfo o s)

/-- `G1.RSVD.20`: no operation (R363). -/
def execG1Rsvd20 (s : State) : Out := .next s

/-- `G1.RSVD.21`: no operation (R363). -/
def execG1Rsvd21 (s : State) : Out := .next s

/-- `G1.RSVD.22`: no operation (R363). -/
def execG1Rsvd22 (s : State) : Out := .next s

/-- `G1.RSVD.23`: no operation (R363). -/
def execG1Rsvd23 (s : State) : Out := .next s

/-- `G1.RSVD.24`: no operation (R363). -/
def execG1Rsvd24 (s : State) : Out := .next s

/-- `G1.RSVD.25`: no operation (R363). -/
def execG1Rsvd25 (s : State) : Out := .next s

/-- `G1.RSVD.26`: no operation (R363). -/
def execG1Rsvd26 (s : State) : Out := .next s

/-- `G1.RSVD.27`: no operation (R363). -/
def execG1Rsvd27 (s : State) : Out := .next s

/-- `G1.RSVD.28`: no operation (R363). -/
def execG1Rsvd28 (s : State) : Out := .next s

/-- `G1.RSVD.29`: no operation (R363). -/
def execG1Rsvd29 (s : State) : Out := .next s

/-- `G1.RSVD.2A`: no operation (R363). -/
def execG1Rsvd2A (s : State) : Out := .next s

/-- `G1.RSVD.2B`: no operation (R363). -/
def execG1Rsvd2B (s : State) : Out := .next s

/-- `G1.RSVD.2C`: no operation (R363). -/
def execG1Rsvd2C (s : State) : Out := .next s

/-- `G1.RSVD.2D`: no operation (R363). -/
def execG1Rsvd2D (s : State) : Out := .next s

/-- `G1.RSVD.2E`: no operation (R363). -/
def execG1Rsvd2E (s : State) : Out := .next s

/-- `G1.RSVD.2F`: no operation (R363). -/
def execG1Rsvd2F (s : State) : Out := .next s

/-- `G1.RSVD.30`: no operation (R363). -/
def execG1Rsvd30 (s : State) : Out := .next s

/-- `G1.RSVD.31`: no operation (R363). -/
def execG1Rsvd31 (s : State) : Out := .next s

/-- `G1.RSVD.32`: no operation (R363). -/
def execG1Rsvd32 (s : State) : Out := .next s

/-- `G1.RSVD.33`: no operation (R363). -/
def execG1Rsvd33 (s : State) : Out := .next s

/-- `G1.RSVD.34`: no operation (R363). -/
def execG1Rsvd34 (s : State) : Out := .next s

/-- `G1.RSVD.35`: no operation (R363). -/
def execG1Rsvd35 (s : State) : Out := .next s

/-- `G1.RSVD.36`: no operation (R363). -/
def execG1Rsvd36 (s : State) : Out := .next s

/-- `G1.RSVD.37`: no operation (R363). -/
def execG1Rsvd37 (s : State) : Out := .next s

/-- `G1.RSVD.38`: no operation (R363). -/
def execG1Rsvd38 (s : State) : Out := .next s

/-- `G1.RSVD.39`: no operation (R363). -/
def execG1Rsvd39 (s : State) : Out := .next s

/-- `G1.RSVD.3A`: no operation (R363). -/
def execG1Rsvd3A (s : State) : Out := .next s

/-- `G1.RSVD.3B`: no operation (R363). -/
def execG1Rsvd3B (s : State) : Out := .next s

/-- `G1.RSVD.3C`: no operation (R363). -/
def execG1Rsvd3C (s : State) : Out := .next s

/-- `G1.RSVD.3D`: no operation (R363). -/
def execG1Rsvd3D (s : State) : Out := .next s

/-- `G1.RSVD.3E`: no operation (R363). -/
def execG1Rsvd3E (s : State) : Out := .next s

/-- `G1.RSVD.3F`: no operation (R363). -/
def execG1Rsvd3F (s : State) : Out := .next s

end Sys2Proof.Machine
end

