-- ==== Sys2Proof/Machine/Polygon.lean ====
section
/-! DEFINITION. Triangles and quads (spec/43_polygons.md R220 to R243) and the meaning of the 32 polygon
commands (R500 to R531). -/

namespace Sys2Proof.Machine

/-! ## Fixed point (R8, R9) -/

/-- `x << 16`. -/
def shl16 (x : Int) : Int := x * 65536

/-- `x >> 16`, rounding toward minus infinity (R8). -/
def shr16 (x : Int) : Int := x / 65536

/-- `div_t(a, b)`: truncating toward zero (R9). -/
def divT (a b : Int) : Int := Int.tdiv a b

/-- `(x + 0xFFFF) >> 16`: the ceiling of a 16.16 number (R236). -/
def ceil16 (x : Int) : Int := shr16 (x + 65535)

/-- `clamp(v, 0, 255)` (R237). -/
def clampByte (v : Int) : Nat := (min (max v 0) 255).toNat

/-! ## Vertices (R221, R222) -/

/-- The five interpolated attributes. -/
structure Attrs where
  u : Int
  v : Int
  r : Int
  g : Int
  b : Int
  deriving DecidableEq, Repr

/-- Attribute by attribute. -/
def Attrs.map₂ (f : Int → Int → Int) (a b : Attrs) : Attrs :=
  ⟨f a.u b.u, f a.v b.v, f a.r b.r, f a.g b.g, f a.b b.b⟩

/-- A vertex record (R222). -/
structure Vert where
  x : Int
  y : Int
  a : Attrs
  deriving DecidableEq, Repr

/-- A vertex as a command gives it: colour, coordinates, texel coordinate. -/
structure RawVert where
  c : Rgb
  p : Vtx
  t : Uv
  deriving DecidableEq, Repr

/-- The vertex record of a command's vertex (R221). -/
def RawVert.vert (ofs : DrawOffset) (w : RawVert) : Vert :=
  { x := (vertex ofs w.p).1, y := (vertex ofs w.p).2,
    a := ⟨w.t.u.toNat, w.t.v.toNat, w.c.r.toNat, w.c.g.toNat, w.c.b.toNat⟩ }

/-- How the pixels of a polygon take their colour: interpolated, or the flat colour for every one (R222, R225). -/
structure Shading where
  gouraud : Bool
  flat : Rgb
  deriving DecidableEq, Repr

/-- The pixel of 16.16 attributes at a cell (R225, R237). -/
def Shading.pixel (sh : Shading) (x y : Int) (a : Attrs) : Pixel :=
  { x := x, y := y,
    r := if sh.gouraud then clampByte (shr16 a.r) else sh.flat.r.toNat,
    g := if sh.gouraud then clampByte (shr16 a.g) else sh.flat.g.toNat,
    b := if sh.gouraud then clampByte (shr16 a.b) else sh.flat.b.toNat,
    u := BitVec.ofInt 8 (shr16 a.u), v := BitVec.ofInt 8 (shr16 a.v) }

/-! ## Triangles (R229 to R237) -/

/-- The change per row, in 16.16, from `p` to `q` over a height (R231, R234). -/
def rowStep (h p q : Int) : Int := divT (shl16 (q - p)) h

/-- An edge from an upper vertex to a lower one. -/
structure Edge where
  top : Vert
  bottom : Vert
  deriving DecidableEq, Repr

/-- The height of an edge (R231, R234). -/
def Edge.height (e : Edge) : Int := e.bottom.y - e.top.y

/-- `dx` of an edge (R231, R234). -/
def Edge.dx (e : Edge) : Int := rowStep e.height e.top.x e.bottom.x

/-- `x(y)` of an edge, 16.16 (R231, R234). -/
def Edge.x (e : Edge) (y : Int) : Int := shl16 e.top.x + e.dx * (y - e.top.y)

/-- `a(y)` of an edge for every attribute, 16.16 (R231, R234). -/
def Edge.attrs (e : Edge) (y : Int) : Attrs :=
  Attrs.map₂ (fun p q => shl16 p + rowStep e.height p q * (y - e.top.y)) e.top.a e.bottom.a

/-- Three vertices sorted by `y`: `A.y ≤ B.y ≤ C.y` (R229). -/
structure Tri where
  a : Vert
  b : Vert
  c : Vert
  deriving DecidableEq, Repr

/-- A third vertex put among two sorted ones, after those of equal `y`. -/
def Tri.insert (p q r : Vert) : Tri :=
  if r.y < p.y then ⟨r, p, q⟩ else if r.y < q.y then ⟨p, r, q⟩ else ⟨p, q, r⟩

/-- The stable sort of R229. -/
def Tri.sort (p0 p1 p2 : Vert) : Tri :=
  if p1.y < p0.y then Tri.insert p1 p0 p2 else Tri.insert p0 p1 p2

/-- `area2` (R230). -/
def Tri.area2 (t : Tri) : Int :=
  (t.b.x - t.a.x) * (t.c.y - t.a.y) - (t.c.x - t.a.x) * (t.b.y - t.a.y)

/-- The long edge (R229). -/
def Tri.long (t : Tri) : Edge := ⟨t.a, t.c⟩

/-- The active short edge on a row (R234). -/
def Tri.short (t : Tri) (y : Int) : Edge := if y < t.b.y then ⟨t.a, t.b⟩ else ⟨t.b, t.c⟩

/-- `W` (R232). -/
def Tri.width (t : Tri) : Int := t.long.x t.b.y - shl16 t.b.x

/-- The horizontal gradients `da_dx` (R232). -/
def Tri.grad (t : Tri) : Attrs :=
  Attrs.map₂ (fun l b => divT (shl16 (l - shl16 b)) t.width) (t.long.attrs t.b.y) t.b.a

/-- The triangle is rejected: zero height, no area (R230), or `W = 0` (R233). -/
def Tri.rejected (t : Tri) : Bool :=
  decide (t.a.y = t.c.y) || decide (t.area2 = 0) || decide (t.width = 0)

/-- The long edge is the left edge on a row (R235). -/
def Tri.longIsLeft (t : Tri) (y : Int) : Bool :=
  decide (t.long.x y < (t.short y).x y) ||
    (decide (t.long.x y = (t.short y).x y) && decide (t.long.dx < (t.short y).dx))

/-- The left edge on a row (R235). -/
def Tri.left (t : Tri) (y : Int) : Edge := if t.longIsLeft y then t.long else t.short y

/-- The right edge on a row (R235). -/
def Tri.right (t : Tri) (y : Int) : Edge := if t.longIsLeft y then t.short y else t.long

/-- The pixel of a column of a row, `n` columns from the span's start (R237). -/
def Tri.pixel (sh : Shading) (t : Tri) (y x : Int) : Pixel :=
  sh.pixel x y (Attrs.map₂ (fun a d => a + d * (x - ceil16 ((t.left y).x y))) ((t.left y).attrs y) t.grad)

/-- The pixels of a row inside the clip rectangle, left to right (R236, R237). -/
def Tri.row (clip : Rect) (sh : Shading) (t : Tri) (y : Int) : List Pixel :=
  (rangeII (max (ceil16 ((t.left y).x y)) clip.x0) (min (ceil16 ((t.right y).x y) - 1) clip.x1)).map
    (t.pixel sh y)

/-- The pixels of a sorted triangle, rows top to bottom (R227, R234). -/
def Tri.pixels (clip : Rect) (sh : Shading) (t : Tri) : List Pixel :=
  if t.rejected then []
  else (rangeII (max t.a.y clip.y0) (min (t.c.y - 1) clip.y1)).flatMap (t.row clip sh)

/-- `Triangle(P0, P1, P2, mode)` (R229). -/
def trianglePixels (clip : Rect) (sh : Shading) (p0 p1 p2 : Vert) : List Pixel :=
  (Tri.sort p0 p1 p2).pixels clip sh

/-! ## Quads (R239 to R241) -/

/-- The four vertices form an axis-aligned rectangle in the order of R239 (a). -/
def quadShape (p0 p1 p2 p3 : Vert) : Bool :=
  decide (p0.y = p1.y) && decide (p2.y = p3.y) && decide (p0.x = p2.x) && decide (p1.x = p3.x) &&
    decide (p0.x < p1.x) && decide (p0.y < p2.y)

/-- `P0.a + P3.a = P1.a + P2.a` for every attribute in use (R239 (b)). -/
def quadLinear (textured gouraud : Bool) (a0 a1 a2 a3 : Attrs) : Bool :=
  (!textured || (decide (a0.u + a3.u = a1.u + a2.u) && decide (a0.v + a3.v = a1.v + a2.v))) &&
    (!gouraud || (decide (a0.r + a3.r = a1.r + a2.r) && decide (a0.g + a3.g = a1.g + a2.g) &&
      decide (a0.b + a3.b = a1.b + a2.b)))

/-- The attributes of the rectangle path at a cell, 16.16 (R240). -/
def quadAttrs (p0 p1 p2 : Vert) (y x : Int) : Attrs :=
  Attrs.map₂ (fun ax dy => ax + dy * (y - p0.y))
    (Attrs.map₂ (fun a b => shl16 a + divT (shl16 (b - a)) (p1.x - p0.x) * (x - p0.x)) p0.a p1.a)
    (Attrs.map₂ (fun a c => divT (shl16 (c - a)) (p2.y - p0.y)) p0.a p2.a)

/-- The rectangle path (R240). -/
def quadRectPixels (clip : Rect) (sh : Shading) (p0 p1 p2 : Vert) : List Pixel :=
  (rangeII (max p0.y clip.y0) (min (p2.y - 1) clip.y1)).flatMap fun y =>
    (rangeII (max p0.x clip.x0) (min (p1.x - 1) clip.x1)).map fun x =>
      sh.pixel x y (quadAttrs p0 p1 p2 y x)

/-- `Quad(P0, P1, P2, P3, mode)` (R239, R241). -/
def quadPixels (clip : Rect) (sh : Shading) (textured : Bool) (p0 p1 p2 p3 : Vert) : List Pixel :=
  if quadShape p0 p1 p2 p3 && quadLinear textured sh.gouraud p0.a p1.a p2.a p3.a then
    quadRectPixels clip sh p0 p1 p2
  else trianglePixels clip sh p0 p1 p2 ++ trianglePixels clip sh p1 p2 p3

/-! ## The command (R221) -/

/-- A polygon command with its opcode's fields; a quad has a fourth vertex, a textured polygon a CLUT selector and
a page attribute (R119). -/
structure PolyCmd where
  gouraud : Bool
  semi : Bool
  raw : Bool
  tex : Option (ClutSel × PageAttr)
  w0 : RawVert
  w1 : RawVert
  w2 : RawVert
  w3 : Option RawVert
  deriving DecidableEq, Repr

/-- `T` of the opcode (R119). -/
def PolyCmd.textured (c : PolyCmd) : Bool := c.tex.isSome

/-- The CLUT selector of the draw; that of an untextured draw is never used (R223). -/
def PolyCmd.clut (c : PolyCmd) : ClutSel :=
  match c.tex with
  | some (k, _) => k
  | none => ⟨0#6, 0#9⟩

/-- The command's own write of `DM` (R224). -/
def PolyCmd.writeMode (c : PolyCmd) (s : State) : State :=
  match c.tex with
  | some (_, a) => { s with dm := s.dm.withPage a }
  | none => s

/-- How its pixels take their colour (R221). -/
def PolyCmd.shading (c : PolyCmd) : Shading := ⟨c.gouraud, c.w0.c⟩

/-- The pixels the polygon covers inside the clip rectangle, in the order they are plotted (R221, R227). -/
def PolyCmd.pixels (c : PolyCmd) (ofs : DrawOffset) (clip : Rect) : List Pixel :=
  match c.w3 with
  | none => trianglePixels clip c.shading (c.w0.vert ofs) (c.w1.vert ofs) (c.w2.vert ofs)
  | some w3 =>
    quadPixels clip c.shading c.textured (c.w0.vert ofs) (c.w1.vert ofs) (c.w2.vert ofs) (w3.vert ofs)

/-- The bounding box of three vertices. -/
def box3 (p q r : Vert) : Rect :=
  ⟨min p.x (min q.x r.x), min p.y (min q.y r.y), max p.x (max q.x r.x), max p.y (max q.y r.y)⟩

/-- The bounding box of the polygon's vertices (R242). -/
def PolyCmd.box (c : PolyCmd) (ofs : DrawOffset) : Rect :=
  match c.w3 with
  | none => box3 (c.w0.vert ofs) (c.w1.vert ofs) (c.w2.vert ofs)
  | some w3 => bbox (some (box3 (c.w0.vert ofs) (c.w1.vert ofs) (c.w2.vert ofs)))
      ⟨(w3.vert ofs).x, (w3.vert ofs).y, (w3.vert ofs).x, (w3.vert ofs).y⟩

/-- The draw and its report, the clip rectangle not empty (R221, R242). -/
def PolyCmd.draw (c : PolyCmd) (s : State) : State :=
  reportIfAny ((c.box s.ofs).inter s.clip.rect)
    (drawPrimitive c.textured c.raw c.semi c.clut (c.pixels s.ofs s.clip.rect) (mod16Check c.textured c.raw s))

/-- `Polygon(op)` (R221). -/
def polygon (c : PolyCmd) (s : State) : State :=
  if s.clip.rect.isEmpty then c.writeMode s else c.draw (c.writeMode s)

/-! ## The layouts (R119) -/

/-- The texel coordinate of a vertex of an untextured polygon: unused (R222). -/
def noUv : Uv := ⟨0#8, 0#8⟩

/-- `C0 V0 V1 V2`. -/
def flatTri (o : FlatTri) (semi raw : Bool) : PolyCmd :=
  ⟨false, semi, raw, none, ⟨o.c0, o.v0, noUv⟩, ⟨o.c0, o.v1, noUv⟩, ⟨o.c0, o.v2, noUv⟩, none⟩

/-- `C0 V0 T0 V1 T1 V2 T2`. -/
def flatTriTex (o : FlatTriTex) (semi raw : Bool) : PolyCmd :=
  ⟨false, semi, raw, some (o.clut, o.page), ⟨o.c0, o.v0, o.t0⟩, ⟨o.c0, o.v1, o.t1⟩, ⟨o.c0, o.v2, o.t2⟩,
    none⟩

/-- `C0 V0 V1 V2 V3`. -/
def flatQuad (o : FlatQuad) (semi raw : Bool) : PolyCmd :=
  ⟨false, semi, raw, none, ⟨o.c0, o.v0, noUv⟩, ⟨o.c0, o.v1, noUv⟩, ⟨o.c0, o.v2, noUv⟩,
    some ⟨o.c0, o.v3, noUv⟩⟩

/-- `C0 V0 T0 V1 T1 V2 T2 V3 T3`. -/
def flatQuadTex (o : FlatQuadTex) (semi raw : Bool) : PolyCmd :=
  ⟨false, semi, raw, some (o.clut, o.page), ⟨o.c0, o.v0, o.t0⟩, ⟨o.c0, o.v1, o.t1⟩, ⟨o.c0, o.v2, o.t2⟩,
    some ⟨o.c0, o.v3, o.t3⟩⟩

/-- `C0 V0 C1 V1 C2 V2`. -/
def gourTri (o : GourTri) (semi raw : Bool) : PolyCmd :=
  ⟨true, semi, raw, none, ⟨o.c0, o.v0, noUv⟩, ⟨o.c1, o.v1, noUv⟩, ⟨o.c2, o.v2, noUv⟩, none⟩

/-- `C0 V0 T0 C1 V1 T1 C2 V2 T2`. -/
def gourTriTex (o : GourTriTex) (semi raw : Bool) : PolyCmd :=
  ⟨true, semi, raw, some (o.clut, o.page), ⟨o.c0, o.v0, o.t0⟩, ⟨o.c1, o.v1, o.t1⟩, ⟨o.c2, o.v2, o.t2⟩,
    none⟩

/-- `C0 V0 C1 V1 C2 V2 C3 V3`. -/
def gourQuad (o : GourQuad) (semi raw : Bool) : PolyCmd :=
  ⟨true, semi, raw, none, ⟨o.c0, o.v0, noUv⟩, ⟨o.c1, o.v1, noUv⟩, ⟨o.c2, o.v2, noUv⟩,
    some ⟨o.c3, o.v3, noUv⟩⟩

/-- `C0 V0 T0 C1 V1 T1 C2 V2 T2 C3 V3 T3`. -/
def gourQuadTex (o : GourQuadTex) (semi raw : Bool) : PolyCmd :=
  ⟨true, semi, raw, some (o.clut, o.page), ⟨o.c0, o.v0, o.t0⟩, ⟨o.c1, o.v1, o.t1⟩, ⟨o.c2, o.v2, o.t2⟩,
    some ⟨o.c3, o.v3, o.t3⟩⟩

/-! ## The instructions -/

/-- `POLY.F3` (R500). -/
def execPolyF3 (o : FlatTri) (s : State) : Out := .next (locked (polygon (flatTri o false false)) s)

/-- `POLY.F3.R` (R501). -/
def execPolyF3R (o : FlatTri) (s : State) : Out := .next (locked (polygon (flatTri o false true)) s)

/-- `POLY.F3.S` (R502). -/
def execPolyF3S (o : FlatTri) (s : State) : Out := .next (locked (polygon (flatTri o true false)) s)

/-- `POLY.F3.S.R` (R503). -/
def execPolyF3SR (o : FlatTri) (s : State) : Out := .next (locked (polygon (flatTri o true true)) s)

/-- `POLY.F3.T` (R504). -/
def execPolyF3T (o : FlatTriTex) (s : State) : Out := .next (locked (polygon (flatTriTex o false false)) s)

/-- `POLY.F3.T.R` (R505). -/
def execPolyF3TR (o : FlatTriTex) (s : State) : Out := .next (locked (polygon (flatTriTex o false true)) s)

/-- `POLY.F3.T.S` (R506). -/
def execPolyF3TS (o : FlatTriTex) (s : State) : Out := .next (locked (polygon (flatTriTex o true false)) s)

/-- `POLY.F3.T.S.R` (R507). -/
def execPolyF3TSR (o : FlatTriTex) (s : State) : Out := .next (locked (polygon (flatTriTex o true true)) s)

/-- `POLY.F4` (R508). -/
def execPolyF4 (o : FlatQuad) (s : State) : Out := .next (locked (polygon (flatQuad o false false)) s)

/-- `POLY.F4.R` (R509). -/
def execPolyF4R (o : FlatQuad) (s : State) : Out := .next (locked (polygon (flatQuad o false true)) s)

/-- `POLY.F4.S` (R510). -/
def execPolyF4S (o : FlatQuad) (s : State) : Out := .next (locked (polygon (flatQuad o true false)) s)

/-- `POLY.F4.S.R` (R511). -/
def execPolyF4SR (o : FlatQuad) (s : State) : Out := .next (locked (polygon (flatQuad o true true)) s)

/-- `POLY.F4.T` (R512). -/
def execPolyF4T (o : FlatQuadTex) (s : State) : Out := .next (locked (polygon (flatQuadTex o false false)) s)

/-- `POLY.F4.T.R` (R513). -/
def execPolyF4TR (o : FlatQuadTex) (s : State) : Out := .next (locked (polygon (flatQuadTex o false true)) s)

/-- `POLY.F4.T.S` (R514). -/
def execPolyF4TS (o : FlatQuadTex) (s : State) : Out := .next (locked (polygon (flatQuadTex o true false)) s)

/-- `POLY.F4.T.S.R` (R515). -/
def execPolyF4TSR (o : FlatQuadTex) (s : State) : Out := .next (locked (polygon (flatQuadTex o true true)) s)

/-- `POLY.G3` (R516). -/
def execPolyG3 (o : GourTri) (s : State) : Out := .next (locked (polygon (gourTri o false false)) s)

/-- `POLY.G3.R` (R517). -/
def execPolyG3R (o : GourTri) (s : State) : Out := .next (locked (polygon (gourTri o false true)) s)

/-- `POLY.G3.S` (R518). -/
def execPolyG3S (o : GourTri) (s : State) : Out := .next (locked (polygon (gourTri o true false)) s)

/-- `POLY.G3.S.R` (R519). -/
def execPolyG3SR (o : GourTri) (s : State) : Out := .next (locked (polygon (gourTri o true true)) s)

/-- `POLY.G3.T` (R520). -/
def execPolyG3T (o : GourTriTex) (s : State) : Out := .next (locked (polygon (gourTriTex o false false)) s)

/-- `POLY.G3.T.R` (R521). -/
def execPolyG3TR (o : GourTriTex) (s : State) : Out := .next (locked (polygon (gourTriTex o false true)) s)

/-- `POLY.G3.T.S` (R522). -/
def execPolyG3TS (o : GourTriTex) (s : State) : Out := .next (locked (polygon (gourTriTex o true false)) s)

/-- `POLY.G3.T.S.R` (R523). -/
def execPolyG3TSR (o : GourTriTex) (s : State) : Out := .next (locked (polygon (gourTriTex o true true)) s)

/-- `POLY.G4` (R524). -/
def execPolyG4 (o : GourQuad) (s : State) : Out := .next (locked (polygon (gourQuad o false false)) s)

/-- `POLY.G4.R` (R525). -/
def execPolyG4R (o : GourQuad) (s : State) : Out := .next (locked (polygon (gourQuad o false true)) s)

/-- `POLY.G4.S` (R526). -/
def execPolyG4S (o : GourQuad) (s : State) : Out := .next (locked (polygon (gourQuad o true false)) s)

/-- `POLY.G4.S.R` (R527). -/
def execPolyG4SR (o : GourQuad) (s : State) : Out := .next (locked (polygon (gourQuad o true true)) s)

/-- `POLY.G4.T` (R528). -/
def execPolyG4T (o : GourQuadTex) (s : State) : Out := .next (locked (polygon (gourQuadTex o false false)) s)

/-- `POLY.G4.T.R` (R529). -/
def execPolyG4TR (o : GourQuadTex) (s : State) : Out := .next (locked (polygon (gourQuadTex o false true)) s)

/-- `POLY.G4.T.S` (R530). -/
def execPolyG4TS (o : GourQuadTex) (s : State) : Out := .next (locked (polygon (gourQuadTex o true false)) s)

/-- `POLY.G4.T.S.R` (R531). -/
def execPolyG4TSR (o : GourQuadTex) (s : State) : Out := .next (locked (polygon (gourQuadTex o true true)) s)

end Sys2Proof.Machine
end

