-- ==== Sys2Proof/Machine/Line.lean ====
section
/-! DEFINITION. Lines and polylines (spec/45_lines.md R280 to R295), the polyline data words (R291, R292) and the
meaning of the 32 line commands (R580 to R587). -/

namespace Sys2Proof.Machine

/-! ## One segment (R282 to R286) -/

/-- `count`, the steps along the major axis (R283). -/
def lineCount (dx dy : Int) : Nat := max dx.natAbs dy.natAbs

/-- `+1` if the difference is positive, else `-1` (R283). -/
def lineSign (d : Int) : Int := if d > 0 then 1 else -1

/-- How a segment walks: major axis, signs, `count` and the minor extent `m` (R283). -/
structure Walk where
  xmajor : Bool
  sx : Int
  sy : Int
  count : Nat
  m : Nat
  deriving DecidableEq, Repr

/-- The set-up of a segment (R283). -/
def Walk.of (p0 p1 : Int × Int) : Walk :=
  { xmajor := decide ((p1.1 - p0.1).natAbs ≥ (p1.2 - p0.2).natAbs),
    sx := lineSign (p1.1 - p0.1), sy := lineSign (p1.2 - p0.2),
    count := lineCount (p1.1 - p0.1) (p1.2 - p0.2),
    m := min (p1.1 - p0.1).natAbs (p1.2 - p0.2).natAbs }

/-- One step along the major axis (R285). -/
def Walk.major (k : Walk) (p : Int × Int) : Int × Int :=
  if k.xmajor then (p.1 + k.sx, p.2) else (p.1, p.2 + k.sy)

/-- One step along the minor axis (R285). -/
def Walk.minor (k : Walk) (p : Int × Int) : Int × Int :=
  if k.xmajor then (p.1, p.2 + k.sy) else (p.1 + k.sx, p.2)

/-- The cells from a cell on, `n` more steps to go and the accumulator `LINE` at `acc` (R285). -/
def Walk.cells (k : Walk) : Nat → Int × Int → Int → List (Int × Int)
  | 0, p, _ => [p]
  | n + 1, p, acc =>
    p :: (if acc - k.m < 0 then k.cells n (k.minor (k.major p)) (acc - k.m + k.count)
      else k.cells n (k.major p) (acc - k.m))

/-- The `count + 1` cells of a segment in order (R285). -/
def lineCells (p0 p1 : Int × Int) : List (Int × Int) :=
  (Walk.of p0 p1).cells (Walk.of p0 p1).count p0 ((Walk.of p0 p1).count / 2 : Nat)

/-- `dc` of one channel: no division where `count` is 0 (R284). -/
def lineStep (count : Nat) (a b : BitVec 8) : Int :=
  if count = 0 then 0 else divT (shl16 ((b.toNat : Int) - a.toNat)) count

/-- The colour of the `i`-th pixel, one channel (R284). -/
def lineChannel (count : Nat) (a b : BitVec 8) (i : Nat) : Nat :=
  clampByte (shr16 (shl16 a.toNat + lineStep count a b * i))

/-- The `i`-th pixel of a segment (R284, R285). -/
def linePixel (count : Nat) (c0 c1 : Rgb) (p : Int × Int) (i : Nat) : Pixel :=
  { x := p.1, y := p.2, r := lineChannel count c0.r c1.r i, g := lineChannel count c0.g c1.g i,
    b := lineChannel count c0.b c1.b i, u := 0#8, v := 0#8 }

/-- The pixels of a segment (R285). -/
def linePixels (p0 p1 : Int × Int) (c0 c1 : Rgb) : List Pixel :=
  (lineCells p0 p1).mapIdx fun i p => linePixel (Walk.of p0 p1).count c0 c1 p i

/-- The bounding box of the endpoints (R286). -/
def lineBox (p0 p1 : Int × Int) : Rect := ⟨min p0.1 p1.1, min p0.2 p1.2, max p0.1 p1.1, max p0.2 p1.2⟩

/-- Both endpoints are inside `CLIP` (R282). -/
def lineAccepted (clip : ClipRect) (p0 p1 : Int × Int) : Bool :=
  clip.rect.has p0.1 p0.2 && clip.rect.has p1.1 p1.2

/-- `Segment(p0, p1, c0, c1, S)` (R282 to R286). -/
def segment (p0 p1 : Int × Int) (c0 c1 : Rgb) (semi : Bool) (s : State) : State :=
  if lineAccepted s.clip p0 p1 then
    report (lineBox p0 p1) (drawPixels false false semi ⟨0#6, 0#9⟩ (linePixels p0 p1 c0 c1) s)
  else s

/-! ## The commands (R281) -/

/-- The two vertices and colours of a line command; a flat line has one colour (R281). -/
structure LineCmd where
  semi : Bool
  c0 : Rgb
  v0 : Vtx
  c1 : Rgb
  v1 : Vtx
  deriving DecidableEq, Repr

/-- `C0 V0 V1` (R120). -/
def flatLine (o : FlatLine) (semi : Bool) : LineCmd := ⟨semi, o.c0, o.v0, o.c0, o.v1⟩

/-- `C0 V0 C1 V1` (R120). -/
def gourLine (o : GourLine) (semi : Bool) : LineCmd := ⟨semi, o.c0, o.v0, o.c1, o.v1⟩

/-- `Line(op)` of a single segment (R281). -/
def line (c : LineCmd) (s : State) : State :=
  segment (vertex s.ofs c.v0) (vertex s.ofs c.v1) c.c0 c.c1 c.semi s

/-- The data phase of a polyline opened after its first segment (R281). -/
def openPolyline (kind : XKind) (p1 : Int × Int) (c1 : Rgb) (s : State) : State :=
  { s with pline := { s.pline with plast := p1, pcol := c1, pphase := 0#1 },
           xkind := kind, dstate := .extraData }

/-- `Line(op)` of a polyline: semi-transparency is reported once and not done (R281, R293). -/
def polyline (kind : XKind) (c : LineCmd) (s : State) : State :=
  openPolyline kind (vertex s.ofs c.v1) c.c1
    (segment (vertex s.ofs c.v0) (vertex s.ofs c.v1) c.c0 c.c1 false
      (if c.semi then raiseDiag .semiPolyline s else s))

/-! ## The data words (R121, R291, R292) -/

/-- `(w & 0xF000F000) = 0x50005000` (R121). -/
def isTerminator (w : Word) : Bool := (w &&& 0xF000F000#32) == 0x50005000#32

/-- `PolyFlatWord(w)` (R291). The spec does not say which polyline sub-states R147 and R406 call inconsistent; the model
takes none to be so, `PPHASE` is not looked at here (DESIGN CHOICE, log entry 16). -/
def polyFlatWord (w : Word) (s : State) : State :=
  if isTerminator w then { s with dstate := .idle }
  else
    { segment s.pline.plast (vertex s.ofs (.ofWord w)) s.pline.pcol s.pline.pcol false s with
      pline := { s.pline with plast := vertex s.ofs (.ofWord w) } }

/-- `PolyGouraudWord(w)` (R292); no sub-state is taken to be inconsistent (DESIGN CHOICE, log entry 16). -/
def polyGouraudWord (w : Word) (s : State) : State :=
  if s.pline.pphase = 0#1 then
    if isTerminator w then { s with dstate := .idle }
    else { s with pline := { s.pline with pnext := .ofWord w, pphase := 1#1 } }
  else
    { segment s.pline.plast (vertex s.ofs (.ofWord w)) s.pline.pcol s.pline.pnext false s with
      pline := { s.pline with plast := vertex s.ofs (.ofWord w), pcol := s.pline.pnext, pphase := 0#1 } }

/-! ## The instructions -/

/-- `LINE.F` (R580). -/
def execLineF (o : FlatLine) (s : State) : Out := .next (locked (line (flatLine o false)) s)

/-- `LINE.F.x41` (R580). -/
def execLineFX41 (o : FlatLine) (s : State) : Out := .next (locked (line (flatLine o false)) s)

/-- `LINE.F.S` (R581). -/
def execLineFS (o : FlatLine) (s : State) : Out := .next (locked (line (flatLine o true)) s)

/-- `LINE.F.S.x43` (R581). -/
def execLineFSX43 (o : FlatLine) (s : State) : Out := .next (locked (line (flatLine o true)) s)

/-- `LINE.F.x44` (R580). -/
def execLineFX44 (o : FlatLine) (s : State) : Out := .next (locked (line (flatLine o false)) s)

/-- `LINE.F.x45` (R580). -/
def execLineFX45 (o : FlatLine) (s : State) : Out := .next (locked (line (flatLine o false)) s)

/-- `LINE.F.S.x46` (R581). -/
def execLineFSX46 (o : FlatLine) (s : State) : Out := .next (locked (line (flatLine o true)) s)

/-- `LINE.F.S.x47` (R581). -/
def execLineFSX47 (o : FlatLine) (s : State) : Out := .next (locked (line (flatLine o true)) s)

/-- `PLINE.F` (R582). -/
def execPlineF (o : FlatLine) (s : State) : Out := .next (locked (polyline .polyFlat (flatLine o false)) s)

/-- `PLINE.F.x49` (R582). -/
def execPlineFX49 (o : FlatLine) (s : State) : Out := .next (locked (polyline .polyFlat (flatLine o false)) s)

/-- `PLINE.F.S` (R583). -/
def execPlineFS (o : FlatLine) (s : State) : Out := .next (locked (polyline .polyFlat (flatLine o true)) s)

/-- `PLINE.F.S.x4B` (R583). -/
def execPlineFSX4B (o : FlatLine) (s : State) : Out := .next (locked (polyline .polyFlat (flatLine o true)) s)

/-- `PLINE.F.x4C` (R582). -/
def execPlineFX4C (o : FlatLine) (s : State) : Out := .next (locked (polyline .polyFlat (flatLine o false)) s)

/-- `PLINE.F.x4D` (R582). -/
def execPlineFX4D (o : FlatLine) (s : State) : Out := .next (locked (polyline .polyFlat (flatLine o false)) s)

/-- `PLINE.F.S.x4E` (R583). -/
def execPlineFSX4E (o : FlatLine) (s : State) : Out := .next (locked (polyline .polyFlat (flatLine o true)) s)

/-- `PLINE.F.S.x4F` (R583). -/
def execPlineFSX4F (o : FlatLine) (s : State) : Out := .next (locked (polyline .polyFlat (flatLine o true)) s)

/-- `LINE.G` (R584). -/
def execLineG (o : GourLine) (s : State) : Out := .next (locked (line (gourLine o false)) s)

/-- `LINE.G.x51` (R584). -/
def execLineGX51 (o : GourLine) (s : State) : Out := .next (locked (line (gourLine o false)) s)

/-- `LINE.G.S` (R585). -/
def execLineGS (o : GourLine) (s : State) : Out := .next (locked (line (gourLine o true)) s)

/-- `LINE.G.S.x53` (R585). -/
def execLineGSX53 (o : GourLine) (s : State) : Out := .next (locked (line (gourLine o true)) s)

/-- `LINE.G.x54` (R584). -/
def execLineGX54 (o : GourLine) (s : State) : Out := .next (locked (line (gourLine o false)) s)

/-- `LINE.G.x55` (R584). -/
def execLineGX55 (o : GourLine) (s : State) : Out := .next (locked (line (gourLine o false)) s)

/-- `LINE.G.S.x56` (R585). -/
def execLineGSX56 (o : GourLine) (s : State) : Out := .next (locked (line (gourLine o true)) s)

/-- `LINE.G.S.x57` (R585). -/
def execLineGSX57 (o : GourLine) (s : State) : Out := .next (locked (line (gourLine o true)) s)

/-- `PLINE.G` (R586). -/
def execPlineG (o : GourLine) (s : State) : Out := .next (locked (polyline .polyGouraud (gourLine o false)) s)

/-- `PLINE.G.x59` (R586). -/
def execPlineGX59 (o : GourLine) (s : State) : Out := .next (locked (polyline .polyGouraud (gourLine o false)) s)

/-- `PLINE.G.S` (R587). -/
def execPlineGS (o : GourLine) (s : State) : Out := .next (locked (polyline .polyGouraud (gourLine o true)) s)

/-- `PLINE.G.S.x5B` (R587). -/
def execPlineGSX5B (o : GourLine) (s : State) : Out := .next (locked (polyline .polyGouraud (gourLine o true)) s)

/-- `PLINE.G.x5C` (R586). -/
def execPlineGX5C (o : GourLine) (s : State) : Out := .next (locked (polyline .polyGouraud (gourLine o false)) s)

/-- `PLINE.G.x5D` (R586). -/
def execPlineGX5D (o : GourLine) (s : State) : Out := .next (locked (polyline .polyGouraud (gourLine o false)) s)

/-- `PLINE.G.S.x5E` (R587). -/
def execPlineGSX5E (o : GourLine) (s : State) : Out := .next (locked (polyline .polyGouraud (gourLine o true)) s)

/-- `PLINE.G.S.x5F` (R587). -/
def execPlineGSX5F (o : GourLine) (s : State) : Out := .next (locked (polyline .polyGouraud (gourLine o true)) s)

end Sys2Proof.Machine
end

