-- ==== Sys2Proof/Machine/Misc.lean ====
section
/-! DEFINITION. The meaning of NOP, FLUSH and the unrecognised GP0 opcodes (spec/40_command_processor.md R150 to
R153). -/

namespace Sys2Proof.Machine

/-- `NOP`: nothing (R150). -/
def execNop (s : State) : Out := .next s

/-- `FLUSH`: every page entry invalid, nothing else (R151, R335). -/
def execFlush (s : State) : Out := .next (flushPages s)

/-- `RSVD.03`: an unrecognised opcode does nothing (R152). -/
def execRsvd03 (s : State) : Out := .next s

/-- `RSVD.04`: an unrecognised opcode does nothing (R152). -/
def execRsvd04 (s : State) : Out := .next s

/-- `RSVD.05`: an unrecognised opcode does nothing (R152). -/
def execRsvd05 (s : State) : Out := .next s

/-- `RSVD.06`: an unrecognised opcode does nothing (R152). -/
def execRsvd06 (s : State) : Out := .next s

/-- `RSVD.07`: an unrecognised opcode does nothing (R152). -/
def execRsvd07 (s : State) : Out := .next s

/-- `RSVD.08`: an unrecognised opcode does nothing (R152). -/
def execRsvd08 (s : State) : Out := .next s

/-- `RSVD.09`: an unrecognised opcode does nothing (R152). -/
def execRsvd09 (s : State) : Out := .next s

/-- `RSVD.0A`: an unrecognised opcode does nothing (R152). -/
def execRsvd0A (s : State) : Out := .next s

/-- `RSVD.0B`: an unrecognised opcode does nothing (R152). -/
def execRsvd0B (s : State) : Out := .next s

/-- `RSVD.0C`: an unrecognised opcode does nothing (R152). -/
def execRsvd0C (s : State) : Out := .next s

/-- `RSVD.0D`: an unrecognised opcode does nothing (R152). -/
def execRsvd0D (s : State) : Out := .next s

/-- `RSVD.0E`: an unrecognised opcode does nothing (R152). -/
def execRsvd0E (s : State) : Out := .next s

/-- `RSVD.0F`: an unrecognised opcode does nothing (R152). -/
def execRsvd0F (s : State) : Out := .next s

/-- `RSVD.10`: an unrecognised opcode does nothing (R152). -/
def execRsvd10 (s : State) : Out := .next s

/-- `RSVD.11`: an unrecognised opcode does nothing (R152). -/
def execRsvd11 (s : State) : Out := .next s

/-- `RSVD.12`: an unrecognised opcode does nothing (R152). -/
def execRsvd12 (s : State) : Out := .next s

/-- `RSVD.13`: an unrecognised opcode does nothing (R152). -/
def execRsvd13 (s : State) : Out := .next s

/-- `RSVD.14`: an unrecognised opcode does nothing (R152). -/
def execRsvd14 (s : State) : Out := .next s

/-- `RSVD.15`: an unrecognised opcode does nothing (R152). -/
def execRsvd15 (s : State) : Out := .next s

/-- `RSVD.16`: an unrecognised opcode does nothing (R152). -/
def execRsvd16 (s : State) : Out := .next s

/-- `RSVD.17`: an unrecognised opcode does nothing (R152). -/
def execRsvd17 (s : State) : Out := .next s

/-- `RSVD.18`: an unrecognised opcode does nothing (R152). -/
def execRsvd18 (s : State) : Out := .next s

/-- `RSVD.19`: an unrecognised opcode does nothing (R152). -/
def execRsvd19 (s : State) : Out := .next s

/-- `RSVD.1A`: an unrecognised opcode does nothing (R152). -/
def execRsvd1A (s : State) : Out := .next s

/-- `RSVD.1B`: an unrecognised opcode does nothing (R152). -/
def execRsvd1B (s : State) : Out := .next s

/-- `RSVD.1C`: an unrecognised opcode does nothing (R152). -/
def execRsvd1C (s : State) : Out := .next s

/-- `RSVD.1D`: an unrecognised opcode does nothing (R152). -/
def execRsvd1D (s : State) : Out := .next s

/-- `RSVD.1E`: an unrecognised opcode does nothing (R152). -/
def execRsvd1E (s : State) : Out := .next s

/-- `RSVD.1F`: an unrecognised opcode does nothing (R152). -/
def execRsvd1F (s : State) : Out := .next s

/-- `RSVD.E0`: an unrecognised opcode does nothing (R152). -/
def execRsvdE0 (s : State) : Out := .next s

/-- `RSVD.E7`: an unrecognised opcode does nothing (R152). -/
def execRsvdE7 (s : State) : Out := .next s

/-- `RSVD.E8`: an unrecognised opcode does nothing (R152). -/
def execRsvdE8 (s : State) : Out := .next s

/-- `RSVD.E9`: an unrecognised opcode does nothing (R152). -/
def execRsvdE9 (s : State) : Out := .next s

/-- `RSVD.EA`: an unrecognised opcode does nothing (R152). -/
def execRsvdEA (s : State) : Out := .next s

/-- `RSVD.EB`: an unrecognised opcode does nothing (R152). -/
def execRsvdEB (s : State) : Out := .next s

/-- `RSVD.EC`: an unrecognised opcode does nothing (R152). -/
def execRsvdEC (s : State) : Out := .next s

/-- `RSVD.ED`: an unrecognised opcode does nothing (R152). -/
def execRsvdED (s : State) : Out := .next s

/-- `RSVD.EE`: an unrecognised opcode does nothing (R152). -/
def execRsvdEE (s : State) : Out := .next s

/-- `RSVD.EF`: an unrecognised opcode does nothing (R152). -/
def execRsvdEF (s : State) : Out := .next s

/-- `RSVD.F0`: an unrecognised opcode does nothing (R152). -/
def execRsvdF0 (s : State) : Out := .next s

/-- `RSVD.F1`: an unrecognised opcode does nothing (R152). -/
def execRsvdF1 (s : State) : Out := .next s

/-- `RSVD.F2`: an unrecognised opcode does nothing (R152). -/
def execRsvdF2 (s : State) : Out := .next s

/-- `RSVD.F3`: an unrecognised opcode does nothing (R152). -/
def execRsvdF3 (s : State) : Out := .next s

/-- `RSVD.F4`: an unrecognised opcode does nothing (R152). -/
def execRsvdF4 (s : State) : Out := .next s

/-- `RSVD.F5`: an unrecognised opcode does nothing (R152). -/
def execRsvdF5 (s : State) : Out := .next s

/-- `RSVD.F6`: an unrecognised opcode does nothing (R152). -/
def execRsvdF6 (s : State) : Out := .next s

/-- `RSVD.F7`: an unrecognised opcode does nothing (R152). -/
def execRsvdF7 (s : State) : Out := .next s

/-- `RSVD.F8`: an unrecognised opcode does nothing (R152). -/
def execRsvdF8 (s : State) : Out := .next s

/-- `RSVD.F9`: an unrecognised opcode does nothing (R152). -/
def execRsvdF9 (s : State) : Out := .next s

/-- `RSVD.FA`: an unrecognised opcode does nothing (R152). -/
def execRsvdFA (s : State) : Out := .next s

/-- `RSVD.FB`: an unrecognised opcode does nothing (R152). -/
def execRsvdFB (s : State) : Out := .next s

/-- `RSVD.FC`: an unrecognised opcode does nothing (R152). -/
def execRsvdFC (s : State) : Out := .next s

/-- `RSVD.FD`: an unrecognised opcode does nothing (R152). -/
def execRsvdFD (s : State) : Out := .next s

/-- `RSVD.FE`: an unrecognised opcode does nothing (R152). -/
def execRsvdFE (s : State) : Out := .next s

/-- `RSVD.FF`: an unrecognised opcode does nothing (R152). -/
def execRsvdFF (s : State) : Out := .next s

end Sys2Proof.Machine
end

