-- ==== Sys2Proof/Machine/ModeSetting.lean ====
section
/-! DEFINITION. The meaning of the mode-setting commands E1 to E6 (spec/41_mode_setting.md R170 to R177): each
writes exactly its register, all fields at once (R170). -/

namespace Sys2Proof.Machine

/-- `SETMODE` (R171). -/
def execSetmode (o : SetMode) (s : State) : Out :=
  .next { s with dm := ⟨o.page.tpx, o.page.tpy, o.page.abr, o.page.tdepth, o.dtd, o.dfe⟩ }

/-- `SETTW`; the tables and `TWEN` follow (R172). -/
def execSettw (o : SetTw) (s : State) : Out := .next { s with tw := ⟨o.mx, o.my, o.ox, o.oy⟩ }

/-- `SETCLIP1` (R173). -/
def execSetclip1 (o : SetClip) (s : State) : Out := .next { s with clip := { s.clip with x1 := o.x, y1 := o.y } }

/-- `SETCLIP2` (R174). -/
def execSetclip2 (o : SetClip) (s : State) : Out := .next { s with clip := { s.clip with x2 := o.x, y2 := o.y } }

/-- `SETOFS` (R175). -/
def execSetofs (o : SetOfs) (s : State) : Out := .next { s with ofs := ⟨o.x, o.y⟩ }

/-- `SETMASK` (R176). -/
def execSetmask (o : SetMask) (s : State) : Out := .next { s with msk := ⟨o.setBit, o.chkBit⟩ }

end Sys2Proof.Machine
end

