-- ==== Sys2Proof/Machine/Rectangle.lean ====
section
/-! DEFINITION. Rectangles and sprites (spec/44_rectangles.md R260 to R267) and the meaning of the 32 rectangle
commands (R540 to R571). -/

namespace Sys2Proof.Machine

/-- A rectangle command with its opcode's fields; a sprite has a texel coordinate and a CLUT selector (R122). -/
structure RectCmd where
  semi : Bool
  raw : Bool
  c : Rgb
  p : Vtx
  tex : Option (Uv × ClutSel)
  w : Nat
  h : Nat
  deriving DecidableEq, Repr

/-- `T` of the opcode (R122). -/
def RectCmd.textured (c : RectCmd) : Bool := c.tex.isSome

/-- `(u0, v0)` (R261). -/
def RectCmd.uv (c : RectCmd) : Uv :=
  match c.tex with
  | some (t, _) => t
  | none => ⟨0#8, 0#8⟩

/-- The CLUT selector (R261). -/
def RectCmd.clut (c : RectCmd) : ClutSel :=
  match c.tex with
  | some (_, k) => k
  | none => ⟨0#6, 0#9⟩

/-- The cells of the extent: a count of cells from the offset corner, empty where `w` or `h` is 0 (R262). -/
def RectCmd.extent (c : RectCmd) (ofs : DrawOffset) : Rect :=
  ⟨(vertex ofs c.p).1, (vertex ofs c.p).2, (vertex ofs c.p).1 + c.w - 1, (vertex ofs c.p).2 + c.h - 1⟩

/-- The pixel of a cell: texels advance one for one, modulo 256 (R261, R263). -/
def RectCmd.pixel (c : RectCmd) (ofs : DrawOffset) (y x : Int) : Pixel :=
  { x := x, y := y, r := c.c.r.toNat, g := c.c.g.toNat, b := c.c.b.toNat,
    u := BitVec.ofInt 8 (c.uv.u.toNat + (x - (vertex ofs c.p).1)),
    v := BitVec.ofInt 8 (c.uv.v.toNat + (y - (vertex ofs c.p).2)) }

/-- The pixels of the rectangle inside the clip rectangle, rows top to bottom, cells left to right (R261, R265). -/
def RectCmd.pixels (c : RectCmd) (ofs : DrawOffset) (clip : Rect) : List Pixel :=
  (rangeII ((c.extent ofs).inter clip).y0 ((c.extent ofs).inter clip).y1).flatMap fun y =>
    (rangeII ((c.extent ofs).inter clip).x0 ((c.extent ofs).inter clip).x1).map (c.pixel ofs y)

/-- The draw and its report, the clip rectangle not empty (R261). -/
def RectCmd.draw (c : RectCmd) (s : State) : State :=
  reportIfAny ((c.extent s.ofs).inter s.clip.rect)
    (drawPrimitive c.textured c.raw c.semi c.clut (c.pixels s.ofs s.clip.rect) (mod16Check c.textured c.raw s))

/-- `Rectangle(op)` (R261). -/
def rectangle (c : RectCmd) (s : State) : State := if s.clip.rect.isEmpty then s else c.draw s

/-! ## The layouts (R122) -/

/-- `C0 V0 SIZE`. -/
def rectVar (o : RectVar) (semi raw : Bool) : RectCmd := ⟨semi, raw, o.c0, o.v0, none, o.w.toNat, o.h.toNat⟩

/-- `C0 V0 TEX SIZE`. -/
def rectVarTex (o : RectVarTex) (semi raw : Bool) : RectCmd :=
  ⟨semi, raw, o.c0, o.v0, some (o.t0, o.clut), o.w.toNat, o.h.toNat⟩

/-- `C0 V0`, the size forced to `n` by `n`. -/
def rectFix (n : Nat) (o : RectFix) (semi raw : Bool) : RectCmd := ⟨semi, raw, o.c0, o.v0, none, n, n⟩

/-- `C0 V0 TEX`, the size forced to `n` by `n`. -/
def rectFixTex (n : Nat) (o : RectFixTex) (semi raw : Bool) : RectCmd :=
  ⟨semi, raw, o.c0, o.v0, some (o.t0, o.clut), n, n⟩

/-! ## The instructions -/

/-- `RECT.V` (R540). -/
def execRectV (o : RectVar) (s : State) : Out := .next (locked (rectangle (rectVar o false false)) s)

/-- `RECT.V.R` (R541). -/
def execRectVR (o : RectVar) (s : State) : Out := .next (locked (rectangle (rectVar o false true)) s)

/-- `RECT.V.S` (R542). -/
def execRectVS (o : RectVar) (s : State) : Out := .next (locked (rectangle (rectVar o true false)) s)

/-- `RECT.V.S.R` (R543). -/
def execRectVSR (o : RectVar) (s : State) : Out := .next (locked (rectangle (rectVar o true true)) s)

/-- `RECT.V.T` (R544). -/
def execRectVT (o : RectVarTex) (s : State) : Out := .next (locked (rectangle (rectVarTex o false false)) s)

/-- `RECT.V.T.R` (R545). -/
def execRectVTR (o : RectVarTex) (s : State) : Out := .next (locked (rectangle (rectVarTex o false true)) s)

/-- `RECT.V.T.S` (R546). -/
def execRectVTS (o : RectVarTex) (s : State) : Out := .next (locked (rectangle (rectVarTex o true false)) s)

/-- `RECT.V.T.S.R` (R547). -/
def execRectVTSR (o : RectVarTex) (s : State) : Out := .next (locked (rectangle (rectVarTex o true true)) s)

/-- `RECT.1` (R548). -/
def execRect1 (o : RectFix) (s : State) : Out := .next (locked (rectangle (rectFix 1 o false false)) s)

/-- `RECT.1.R` (R549). -/
def execRect1R (o : RectFix) (s : State) : Out := .next (locked (rectangle (rectFix 1 o false true)) s)

/-- `RECT.1.S` (R550). -/
def execRect1S (o : RectFix) (s : State) : Out := .next (locked (rectangle (rectFix 1 o true false)) s)

/-- `RECT.1.S.R` (R551). -/
def execRect1SR (o : RectFix) (s : State) : Out := .next (locked (rectangle (rectFix 1 o true true)) s)

/-- `RECT.1.T` (R552). -/
def execRect1T (o : RectFixTex) (s : State) : Out := .next (locked (rectangle (rectFixTex 1 o false false)) s)

/-- `RECT.1.T.R` (R553). -/
def execRect1TR (o : RectFixTex) (s : State) : Out := .next (locked (rectangle (rectFixTex 1 o false true)) s)

/-- `RECT.1.T.S` (R554). -/
def execRect1TS (o : RectFixTex) (s : State) : Out := .next (locked (rectangle (rectFixTex 1 o true false)) s)

/-- `RECT.1.T.S.R` (R555). -/
def execRect1TSR (o : RectFixTex) (s : State) : Out := .next (locked (rectangle (rectFixTex 1 o true true)) s)

/-- `RECT.8` (R556). -/
def execRect8 (o : RectFix) (s : State) : Out := .next (locked (rectangle (rectFix 8 o false false)) s)

/-- `RECT.8.R` (R557). -/
def execRect8R (o : RectFix) (s : State) : Out := .next (locked (rectangle (rectFix 8 o false true)) s)

/-- `RECT.8.S` (R558). -/
def execRect8S (o : RectFix) (s : State) : Out := .next (locked (rectangle (rectFix 8 o true false)) s)

/-- `RECT.8.S.R` (R559). -/
def execRect8SR (o : RectFix) (s : State) : Out := .next (locked (rectangle (rectFix 8 o true true)) s)

/-- `RECT.8.T` (R560). -/
def execRect8T (o : RectFixTex) (s : State) : Out := .next (locked (rectangle (rectFixTex 8 o false false)) s)

/-- `RECT.8.T.R` (R561). -/
def execRect8TR (o : RectFixTex) (s : State) : Out := .next (locked (rectangle (rectFixTex 8 o false true)) s)

/-- `RECT.8.T.S` (R562). -/
def execRect8TS (o : RectFixTex) (s : State) : Out := .next (locked (rectangle (rectFixTex 8 o true false)) s)

/-- `RECT.8.T.S.R` (R563). -/
def execRect8TSR (o : RectFixTex) (s : State) : Out := .next (locked (rectangle (rectFixTex 8 o true true)) s)

/-- `RECT.16` (R564). -/
def execRect16 (o : RectFix) (s : State) : Out := .next (locked (rectangle (rectFix 16 o false false)) s)

/-- `RECT.16.R` (R565). -/
def execRect16R (o : RectFix) (s : State) : Out := .next (locked (rectangle (rectFix 16 o false true)) s)

/-- `RECT.16.S` (R566). -/
def execRect16S (o : RectFix) (s : State) : Out := .next (locked (rectangle (rectFix 16 o true false)) s)

/-- `RECT.16.S.R` (R567). -/
def execRect16SR (o : RectFix) (s : State) : Out := .next (locked (rectangle (rectFix 16 o true true)) s)

/-- `RECT.16.T` (R568). -/
def execRect16T (o : RectFixTex) (s : State) : Out := .next (locked (rectangle (rectFixTex 16 o false false)) s)

/-- `RECT.16.T.R` (R569). -/
def execRect16TR (o : RectFixTex) (s : State) : Out := .next (locked (rectangle (rectFixTex 16 o false true)) s)

/-- `RECT.16.T.S` (R570). -/
def execRect16TS (o : RectFixTex) (s : State) : Out := .next (locked (rectangle (rectFixTex 16 o true false)) s)

/-- `RECT.16.T.S.R` (R571). -/
def execRect16TSR (o : RectFixTex) (s : State) : Out := .next (locked (rectangle (rectFixTex 16 o true true)) s)

end Sys2Proof.Machine
end

