-- ==== Sys2Proof/Machine/Dispatch.lean ====
section
/-! DEFINITION. `Dispatch()` (spec/40_command_processor.md R144) and the GP1 case of R350: one arm for each row of
spec/opcode_table.json. -/

namespace Sys2Proof.Machine

def exec (i : Instr) (s : State) : Host.Outcome State Fault Refusal :=
  match i with
  | .nop => Sys2Proof.Machine.execNop s
  | .flush => Sys2Proof.Machine.execFlush s
  | .fill o => Sys2Proof.Machine.execFill o s
  | .rsvd03 => Sys2Proof.Machine.execRsvd03 s
  | .rsvd04 => Sys2Proof.Machine.execRsvd04 s
  | .rsvd05 => Sys2Proof.Machine.execRsvd05 s
  | .rsvd06 => Sys2Proof.Machine.execRsvd06 s
  | .rsvd07 => Sys2Proof.Machine.execRsvd07 s
  | .rsvd08 => Sys2Proof.Machine.execRsvd08 s
  | .rsvd09 => Sys2Proof.Machine.execRsvd09 s
  | .rsvd0A => Sys2Proof.Machine.execRsvd0A s
  | .rsvd0B => Sys2Proof.Machine.execRsvd0B s
  | .rsvd0C => Sys2Proof.Machine.execRsvd0C s
  | .rsvd0D => Sys2Proof.Machine.execRsvd0D s
  | .rsvd0E => Sys2Proof.Machine.execRsvd0E s
  | .rsvd0F => Sys2Proof.Machine.execRsvd0F s
  | .rsvd10 => Sys2Proof.Machine.execRsvd10 s
  | .rsvd11 => Sys2Proof.Machine.execRsvd11 s
  | .rsvd12 => Sys2Proof.Machine.execRsvd12 s
  | .rsvd13 => Sys2Proof.Machine.execRsvd13 s
  | .rsvd14 => Sys2Proof.Machine.execRsvd14 s
  | .rsvd15 => Sys2Proof.Machine.execRsvd15 s
  | .rsvd16 => Sys2Proof.Machine.execRsvd16 s
  | .rsvd17 => Sys2Proof.Machine.execRsvd17 s
  | .rsvd18 => Sys2Proof.Machine.execRsvd18 s
  | .rsvd19 => Sys2Proof.Machine.execRsvd19 s
  | .rsvd1A => Sys2Proof.Machine.execRsvd1A s
  | .rsvd1B => Sys2Proof.Machine.execRsvd1B s
  | .rsvd1C => Sys2Proof.Machine.execRsvd1C s
  | .rsvd1D => Sys2Proof.Machine.execRsvd1D s
  | .rsvd1E => Sys2Proof.Machine.execRsvd1E s
  | .rsvd1F => Sys2Proof.Machine.execRsvd1F s
  | .polyF3 o => Sys2Proof.Machine.execPolyF3 o s
  | .polyF3R o => Sys2Proof.Machine.execPolyF3R o s
  | .polyF3S o => Sys2Proof.Machine.execPolyF3S o s
  | .polyF3SR o => Sys2Proof.Machine.execPolyF3SR o s
  | .polyF3T o => Sys2Proof.Machine.execPolyF3T o s
  | .polyF3TR o => Sys2Proof.Machine.execPolyF3TR o s
  | .polyF3TS o => Sys2Proof.Machine.execPolyF3TS o s
  | .polyF3TSR o => Sys2Proof.Machine.execPolyF3TSR o s
  | .polyF4 o => Sys2Proof.Machine.execPolyF4 o s
  | .polyF4R o => Sys2Proof.Machine.execPolyF4R o s
  | .polyF4S o => Sys2Proof.Machine.execPolyF4S o s
  | .polyF4SR o => Sys2Proof.Machine.execPolyF4SR o s
  | .polyF4T o => Sys2Proof.Machine.execPolyF4T o s
  | .polyF4TR o => Sys2Proof.Machine.execPolyF4TR o s
  | .polyF4TS o => Sys2Proof.Machine.execPolyF4TS o s
  | .polyF4TSR o => Sys2Proof.Machine.execPolyF4TSR o s
  | .polyG3 o => Sys2Proof.Machine.execPolyG3 o s
  | .polyG3R o => Sys2Proof.Machine.execPolyG3R o s
  | .polyG3S o => Sys2Proof.Machine.execPolyG3S o s
  | .polyG3SR o => Sys2Proof.Machine.execPolyG3SR o s
  | .polyG3T o => Sys2Proof.Machine.execPolyG3T o s
  | .polyG3TR o => Sys2Proof.Machine.execPolyG3TR o s
  | .polyG3TS o => Sys2Proof.Machine.execPolyG3TS o s
  | .polyG3TSR o => Sys2Proof.Machine.execPolyG3TSR o s
  | .polyG4 o => Sys2Proof.Machine.execPolyG4 o s
  | .polyG4R o => Sys2Proof.Machine.execPolyG4R o s
  | .polyG4S o => Sys2Proof.Machine.execPolyG4S o s
  | .polyG4SR o => Sys2Proof.Machine.execPolyG4SR o s
  | .polyG4T o => Sys2Proof.Machine.execPolyG4T o s
  | .polyG4TR o => Sys2Proof.Machine.execPolyG4TR o s
  | .polyG4TS o => Sys2Proof.Machine.execPolyG4TS o s
  | .polyG4TSR o => Sys2Proof.Machine.execPolyG4TSR o s
  | .lineF o => Sys2Proof.Machine.execLineF o s
  | .lineFX41 o => Sys2Proof.Machine.execLineFX41 o s
  | .lineFS o => Sys2Proof.Machine.execLineFS o s
  | .lineFSX43 o => Sys2Proof.Machine.execLineFSX43 o s
  | .lineFX44 o => Sys2Proof.Machine.execLineFX44 o s
  | .lineFX45 o => Sys2Proof.Machine.execLineFX45 o s
  | .lineFSX46 o => Sys2Proof.Machine.execLineFSX46 o s
  | .lineFSX47 o => Sys2Proof.Machine.execLineFSX47 o s
  | .plineF o => Sys2Proof.Machine.execPlineF o s
  | .plineFX49 o => Sys2Proof.Machine.execPlineFX49 o s
  | .plineFS o => Sys2Proof.Machine.execPlineFS o s
  | .plineFSX4B o => Sys2Proof.Machine.execPlineFSX4B o s
  | .plineFX4C o => Sys2Proof.Machine.execPlineFX4C o s
  | .plineFX4D o => Sys2Proof.Machine.execPlineFX4D o s
  | .plineFSX4E o => Sys2Proof.Machine.execPlineFSX4E o s
  | .plineFSX4F o => Sys2Proof.Machine.execPlineFSX4F o s
  | .lineG o => Sys2Proof.Machine.execLineG o s
  | .lineGX51 o => Sys2Proof.Machine.execLineGX51 o s
  | .lineGS o => Sys2Proof.Machine.execLineGS o s
  | .lineGSX53 o => Sys2Proof.Machine.execLineGSX53 o s
  | .lineGX54 o => Sys2Proof.Machine.execLineGX54 o s
  | .lineGX55 o => Sys2Proof.Machine.execLineGX55 o s
  | .lineGSX56 o => Sys2Proof.Machine.execLineGSX56 o s
  | .lineGSX57 o => Sys2Proof.Machine.execLineGSX57 o s
  | .plineG o => Sys2Proof.Machine.execPlineG o s
  | .plineGX59 o => Sys2Proof.Machine.execPlineGX59 o s
  | .plineGS o => Sys2Proof.Machine.execPlineGS o s
  | .plineGSX5B o => Sys2Proof.Machine.execPlineGSX5B o s
  | .plineGX5C o => Sys2Proof.Machine.execPlineGX5C o s
  | .plineGX5D o => Sys2Proof.Machine.execPlineGX5D o s
  | .plineGSX5E o => Sys2Proof.Machine.execPlineGSX5E o s
  | .plineGSX5F o => Sys2Proof.Machine.execPlineGSX5F o s
  | .rectV o => Sys2Proof.Machine.execRectV o s
  | .rectVR o => Sys2Proof.Machine.execRectVR o s
  | .rectVS o => Sys2Proof.Machine.execRectVS o s
  | .rectVSR o => Sys2Proof.Machine.execRectVSR o s
  | .rectVT o => Sys2Proof.Machine.execRectVT o s
  | .rectVTR o => Sys2Proof.Machine.execRectVTR o s
  | .rectVTS o => Sys2Proof.Machine.execRectVTS o s
  | .rectVTSR o => Sys2Proof.Machine.execRectVTSR o s
  | .rect1 o => Sys2Proof.Machine.execRect1 o s
  | .rect1R o => Sys2Proof.Machine.execRect1R o s
  | .rect1S o => Sys2Proof.Machine.execRect1S o s
  | .rect1SR o => Sys2Proof.Machine.execRect1SR o s
  | .rect1T o => Sys2Proof.Machine.execRect1T o s
  | .rect1TR o => Sys2Proof.Machine.execRect1TR o s
  | .rect1TS o => Sys2Proof.Machine.execRect1TS o s
  | .rect1TSR o => Sys2Proof.Machine.execRect1TSR o s
  | .rect8 o => Sys2Proof.Machine.execRect8 o s
  | .rect8R o => Sys2Proof.Machine.execRect8R o s
  | .rect8S o => Sys2Proof.Machine.execRect8S o s
  | .rect8SR o => Sys2Proof.Machine.execRect8SR o s
  | .rect8T o => Sys2Proof.Machine.execRect8T o s
  | .rect8TR o => Sys2Proof.Machine.execRect8TR o s
  | .rect8TS o => Sys2Proof.Machine.execRect8TS o s
  | .rect8TSR o => Sys2Proof.Machine.execRect8TSR o s
  | .rect16 o => Sys2Proof.Machine.execRect16 o s
  | .rect16R o => Sys2Proof.Machine.execRect16R o s
  | .rect16S o => Sys2Proof.Machine.execRect16S o s
  | .rect16SR o => Sys2Proof.Machine.execRect16SR o s
  | .rect16T o => Sys2Proof.Machine.execRect16T o s
  | .rect16TR o => Sys2Proof.Machine.execRect16TR o s
  | .rect16TS o => Sys2Proof.Machine.execRect16TS o s
  | .rect16TSR o => Sys2Proof.Machine.execRect16TSR o s
  | .vcopy o => Sys2Proof.Machine.execVcopy o s
  | .vcopyX81 o => Sys2Proof.Machine.execVcopyX81 o s
  | .vcopyX82 o => Sys2Proof.Machine.execVcopyX82 o s
  | .vcopyX83 o => Sys2Proof.Machine.execVcopyX83 o s
  | .vcopyX84 o => Sys2Proof.Machine.execVcopyX84 o s
  | .vcopyX85 o => Sys2Proof.Machine.execVcopyX85 o s
  | .vcopyX86 o => Sys2Proof.Machine.execVcopyX86 o s
  | .vcopyX87 o => Sys2Proof.Machine.execVcopyX87 o s
  | .vcopyX88 o => Sys2Proof.Machine.execVcopyX88 o s
  | .vcopyX89 o => Sys2Proof.Machine.execVcopyX89 o s
  | .vcopyX8A o => Sys2Proof.Machine.execVcopyX8A o s
  | .vcopyX8B o => Sys2Proof.Machine.execVcopyX8B o s
  | .vcopyX8C o => Sys2Proof.Machine.execVcopyX8C o s
  | .vcopyX8D o => Sys2Proof.Machine.execVcopyX8D o s
  | .vcopyX8E o => Sys2Proof.Machine.execVcopyX8E o s
  | .vcopyX8F o => Sys2Proof.Machine.execVcopyX8F o s
  | .vcopyX90 o => Sys2Proof.Machine.execVcopyX90 o s
  | .vcopyX91 o => Sys2Proof.Machine.execVcopyX91 o s
  | .vcopyX92 o => Sys2Proof.Machine.execVcopyX92 o s
  | .vcopyX93 o => Sys2Proof.Machine.execVcopyX93 o s
  | .vcopyX94 o => Sys2Proof.Machine.execVcopyX94 o s
  | .vcopyX95 o => Sys2Proof.Machine.execVcopyX95 o s
  | .vcopyX96 o => Sys2Proof.Machine.execVcopyX96 o s
  | .vcopyX97 o => Sys2Proof.Machine.execVcopyX97 o s
  | .vcopyX98 o => Sys2Proof.Machine.execVcopyX98 o s
  | .vcopyX99 o => Sys2Proof.Machine.execVcopyX99 o s
  | .vcopyX9A o => Sys2Proof.Machine.execVcopyX9A o s
  | .vcopyX9B o => Sys2Proof.Machine.execVcopyX9B o s
  | .vcopyX9C o => Sys2Proof.Machine.execVcopyX9C o s
  | .vcopyX9D o => Sys2Proof.Machine.execVcopyX9D o s
  | .vcopyX9E o => Sys2Proof.Machine.execVcopyX9E o s
  | .vcopyX9F o => Sys2Proof.Machine.execVcopyX9F o s
  | .imgin o => Sys2Proof.Machine.execImgin o s
  | .imginXA1 o => Sys2Proof.Machine.execImginXA1 o s
  | .imginXA2 o => Sys2Proof.Machine.execImginXA2 o s
  | .imginXA3 o => Sys2Proof.Machine.execImginXA3 o s
  | .imginXA4 o => Sys2Proof.Machine.execImginXA4 o s
  | .imginXA5 o => Sys2Proof.Machine.execImginXA5 o s
  | .imginXA6 o => Sys2Proof.Machine.execImginXA6 o s
  | .imginXA7 o => Sys2Proof.Machine.execImginXA7 o s
  | .imginXA8 o => Sys2Proof.Machine.execImginXA8 o s
  | .imginXA9 o => Sys2Proof.Machine.execImginXA9 o s
  | .imginXAA o => Sys2Proof.Machine.execImginXAA o s
  | .imginXAB o => Sys2Proof.Machine.execImginXAB o s
  | .imginXAC o => Sys2Proof.Machine.execImginXAC o s
  | .imginXAD o => Sys2Proof.Machine.execImginXAD o s
  | .imginXAE o => Sys2Proof.Machine.execImginXAE o s
  | .imginXAF o => Sys2Proof.Machine.execImginXAF o s
  | .imginXB0 o => Sys2Proof.Machine.execImginXB0 o s
  | .imginXB1 o => Sys2Proof.Machine.execImginXB1 o s
  | .imginXB2 o => Sys2Proof.Machine.execImginXB2 o s
  | .imginXB3 o => Sys2Proof.Machine.execImginXB3 o s
  | .imginXB4 o => Sys2Proof.Machine.execImginXB4 o s
  | .imginXB5 o => Sys2Proof.Machine.execImginXB5 o s
  | .imginXB6 o => Sys2Proof.Machine.execImginXB6 o s
  | .imginXB7 o => Sys2Proof.Machine.execImginXB7 o s
  | .imginXB8 o => Sys2Proof.Machine.execImginXB8 o s
  | .imginXB9 o => Sys2Proof.Machine.execImginXB9 o s
  | .imginXBA o => Sys2Proof.Machine.execImginXBA o s
  | .imginXBB o => Sys2Proof.Machine.execImginXBB o s
  | .imginXBC o => Sys2Proof.Machine.execImginXBC o s
  | .imginXBD o => Sys2Proof.Machine.execImginXBD o s
  | .imginXBE o => Sys2Proof.Machine.execImginXBE o s
  | .imginXBF o => Sys2Proof.Machine.execImginXBF o s
  | .imgout o => Sys2Proof.Machine.execImgout o s
  | .imgoutXC1 o => Sys2Proof.Machine.execImgoutXC1 o s
  | .imgoutXC2 o => Sys2Proof.Machine.execImgoutXC2 o s
  | .imgoutXC3 o => Sys2Proof.Machine.execImgoutXC3 o s
  | .imgoutXC4 o => Sys2Proof.Machine.execImgoutXC4 o s
  | .imgoutXC5 o => Sys2Proof.Machine.execImgoutXC5 o s
  | .imgoutXC6 o => Sys2Proof.Machine.execImgoutXC6 o s
  | .imgoutXC7 o => Sys2Proof.Machine.execImgoutXC7 o s
  | .imgoutXC8 o => Sys2Proof.Machine.execImgoutXC8 o s
  | .imgoutXC9 o => Sys2Proof.Machine.execImgoutXC9 o s
  | .imgoutXCA o => Sys2Proof.Machine.execImgoutXCA o s
  | .imgoutXCB o => Sys2Proof.Machine.execImgoutXCB o s
  | .imgoutXCC o => Sys2Proof.Machine.execImgoutXCC o s
  | .imgoutXCD o => Sys2Proof.Machine.execImgoutXCD o s
  | .imgoutXCE o => Sys2Proof.Machine.execImgoutXCE o s
  | .imgoutXCF o => Sys2Proof.Machine.execImgoutXCF o s
  | .imgoutXD0 o => Sys2Proof.Machine.execImgoutXD0 o s
  | .imgoutXD1 o => Sys2Proof.Machine.execImgoutXD1 o s
  | .imgoutXD2 o => Sys2Proof.Machine.execImgoutXD2 o s
  | .imgoutXD3 o => Sys2Proof.Machine.execImgoutXD3 o s
  | .imgoutXD4 o => Sys2Proof.Machine.execImgoutXD4 o s
  | .imgoutXD5 o => Sys2Proof.Machine.execImgoutXD5 o s
  | .imgoutXD6 o => Sys2Proof.Machine.execImgoutXD6 o s
  | .imgoutXD7 o => Sys2Proof.Machine.execImgoutXD7 o s
  | .imgoutXD8 o => Sys2Proof.Machine.execImgoutXD8 o s
  | .imgoutXD9 o => Sys2Proof.Machine.execImgoutXD9 o s
  | .imgoutXDA o => Sys2Proof.Machine.execImgoutXDA o s
  | .imgoutXDB o => Sys2Proof.Machine.execImgoutXDB o s
  | .imgoutXDC o => Sys2Proof.Machine.execImgoutXDC o s
  | .imgoutXDD o => Sys2Proof.Machine.execImgoutXDD o s
  | .imgoutXDE o => Sys2Proof.Machine.execImgoutXDE o s
  | .imgoutXDF o => Sys2Proof.Machine.execImgoutXDF o s
  | .rsvdE0 => Sys2Proof.Machine.execRsvdE0 s
  | .setmode o => Sys2Proof.Machine.execSetmode o s
  | .settw o => Sys2Proof.Machine.execSettw o s
  | .setclip1 o => Sys2Proof.Machine.execSetclip1 o s
  | .setclip2 o => Sys2Proof.Machine.execSetclip2 o s
  | .setofs o => Sys2Proof.Machine.execSetofs o s
  | .setmask o => Sys2Proof.Machine.execSetmask o s
  | .rsvdE7 => Sys2Proof.Machine.execRsvdE7 s
  | .rsvdE8 => Sys2Proof.Machine.execRsvdE8 s
  | .rsvdE9 => Sys2Proof.Machine.execRsvdE9 s
  | .rsvdEA => Sys2Proof.Machine.execRsvdEA s
  | .rsvdEB => Sys2Proof.Machine.execRsvdEB s
  | .rsvdEC => Sys2Proof.Machine.execRsvdEC s
  | .rsvdED => Sys2Proof.Machine.execRsvdED s
  | .rsvdEE => Sys2Proof.Machine.execRsvdEE s
  | .rsvdEF => Sys2Proof.Machine.execRsvdEF s
  | .rsvdF0 => Sys2Proof.Machine.execRsvdF0 s
  | .rsvdF1 => Sys2Proof.Machine.execRsvdF1 s
  | .rsvdF2 => Sys2Proof.Machine.execRsvdF2 s
  | .rsvdF3 => Sys2Proof.Machine.execRsvdF3 s
  | .rsvdF4 => Sys2Proof.Machine.execRsvdF4 s
  | .rsvdF5 => Sys2Proof.Machine.execRsvdF5 s
  | .rsvdF6 => Sys2Proof.Machine.execRsvdF6 s
  | .rsvdF7 => Sys2Proof.Machine.execRsvdF7 s
  | .rsvdF8 => Sys2Proof.Machine.execRsvdF8 s
  | .rsvdF9 => Sys2Proof.Machine.execRsvdF9 s
  | .rsvdFA => Sys2Proof.Machine.execRsvdFA s
  | .rsvdFB => Sys2Proof.Machine.execRsvdFB s
  | .rsvdFC => Sys2Proof.Machine.execRsvdFC s
  | .rsvdFD => Sys2Proof.Machine.execRsvdFD s
  | .rsvdFE => Sys2Proof.Machine.execRsvdFE s
  | .rsvdFF => Sys2Proof.Machine.execRsvdFF s
  | .g1Reset => Sys2Proof.Machine.execG1Reset s
  | .g1Abort => Sys2Proof.Machine.execG1Abort s
  | .g1Ack => Sys2Proof.Machine.execG1Ack s
  | .g1Dispen o => Sys2Proof.Machine.execG1Dispen o s
  | .g1Dmadir o => Sys2Proof.Machine.execG1Dmadir o s
  | .g1Origin o => Sys2Proof.Machine.execG1Origin o s
  | .g1Hrange o => Sys2Proof.Machine.execG1Hrange o s
  | .g1Vrange o => Sys2Proof.Machine.execG1Vrange o s
  | .g1Mode o => Sys2Proof.Machine.execG1Mode o s
  | .g1Rsvd09 => Sys2Proof.Machine.execG1Rsvd09 s
  | .g1Rsvd0A => Sys2Proof.Machine.execG1Rsvd0A s
  | .g1Rsvd0B => Sys2Proof.Machine.execG1Rsvd0B s
  | .g1Rsvd0C => Sys2Proof.Machine.execG1Rsvd0C s
  | .g1Rsvd0D => Sys2Proof.Machine.execG1Rsvd0D s
  | .g1Rsvd0E => Sys2Proof.Machine.execG1Rsvd0E s
  | .g1Rsvd0F => Sys2Proof.Machine.execG1Rsvd0F s
  | .g1Info o => Sys2Proof.Machine.execG1Info o s
  | .g1InfoX11 o => Sys2Proof.Machine.execG1InfoX11 o s
  | .g1InfoX12 o => Sys2Proof.Machine.execG1InfoX12 o s
  | .g1InfoX13 o => Sys2Proof.Machine.execG1InfoX13 o s
  | .g1InfoX14 o => Sys2Proof.Machine.execG1InfoX14 o s
  | .g1InfoX15 o => Sys2Proof.Machine.execG1InfoX15 o s
  | .g1InfoX16 o => Sys2Proof.Machine.execG1InfoX16 o s
  | .g1InfoX17 o => Sys2Proof.Machine.execG1InfoX17 o s
  | .g1InfoX18 o => Sys2Proof.Machine.execG1InfoX18 o s
  | .g1InfoX19 o => Sys2Proof.Machine.execG1InfoX19 o s
  | .g1InfoX1A o => Sys2Proof.Machine.execG1InfoX1A o s
  | .g1InfoX1B o => Sys2Proof.Machine.execG1InfoX1B o s
  | .g1InfoX1C o => Sys2Proof.Machine.execG1InfoX1C o s
  | .g1InfoX1D o => Sys2Proof.Machine.execG1InfoX1D o s
  | .g1InfoX1E o => Sys2Proof.Machine.execG1InfoX1E o s
  | .g1InfoX1F o => Sys2Proof.Machine.execG1InfoX1F o s
  | .g1Rsvd20 => Sys2Proof.Machine.execG1Rsvd20 s
  | .g1Rsvd21 => Sys2Proof.Machine.execG1Rsvd21 s
  | .g1Rsvd22 => Sys2Proof.Machine.execG1Rsvd22 s
  | .g1Rsvd23 => Sys2Proof.Machine.execG1Rsvd23 s
  | .g1Rsvd24 => Sys2Proof.Machine.execG1Rsvd24 s
  | .g1Rsvd25 => Sys2Proof.Machine.execG1Rsvd25 s
  | .g1Rsvd26 => Sys2Proof.Machine.execG1Rsvd26 s
  | .g1Rsvd27 => Sys2Proof.Machine.execG1Rsvd27 s
  | .g1Rsvd28 => Sys2Proof.Machine.execG1Rsvd28 s
  | .g1Rsvd29 => Sys2Proof.Machine.execG1Rsvd29 s
  | .g1Rsvd2A => Sys2Proof.Machine.execG1Rsvd2A s
  | .g1Rsvd2B => Sys2Proof.Machine.execG1Rsvd2B s
  | .g1Rsvd2C => Sys2Proof.Machine.execG1Rsvd2C s
  | .g1Rsvd2D => Sys2Proof.Machine.execG1Rsvd2D s
  | .g1Rsvd2E => Sys2Proof.Machine.execG1Rsvd2E s
  | .g1Rsvd2F => Sys2Proof.Machine.execG1Rsvd2F s
  | .g1Rsvd30 => Sys2Proof.Machine.execG1Rsvd30 s
  | .g1Rsvd31 => Sys2Proof.Machine.execG1Rsvd31 s
  | .g1Rsvd32 => Sys2Proof.Machine.execG1Rsvd32 s
  | .g1Rsvd33 => Sys2Proof.Machine.execG1Rsvd33 s
  | .g1Rsvd34 => Sys2Proof.Machine.execG1Rsvd34 s
  | .g1Rsvd35 => Sys2Proof.Machine.execG1Rsvd35 s
  | .g1Rsvd36 => Sys2Proof.Machine.execG1Rsvd36 s
  | .g1Rsvd37 => Sys2Proof.Machine.execG1Rsvd37 s
  | .g1Rsvd38 => Sys2Proof.Machine.execG1Rsvd38 s
  | .g1Rsvd39 => Sys2Proof.Machine.execG1Rsvd39 s
  | .g1Rsvd3A => Sys2Proof.Machine.execG1Rsvd3A s
  | .g1Rsvd3B => Sys2Proof.Machine.execG1Rsvd3B s
  | .g1Rsvd3C => Sys2Proof.Machine.execG1Rsvd3C s
  | .g1Rsvd3D => Sys2Proof.Machine.execG1Rsvd3D s
  | .g1Rsvd3E => Sys2Proof.Machine.execG1Rsvd3E s
  | .g1Rsvd3F => Sys2Proof.Machine.execG1Rsvd3F s

end Sys2Proof.Machine
end

