-- ==== Sys2Proof/Machine/CommandProcessor.lean ====
section
/-! DEFINITION. The command processor: `GP0_WRITE` and its state machine (spec/40_command_processor.md R140 to
R147), `GP1_WRITE` (R350). -/

namespace Sys2Proof.Machine

/-- `Dispatch()` of the words buffered (R144). Words that are no whole command, which no run buffers, are dropped
(R147; log entry 16). -/
def dispatch (s : State) : Out :=
  match decodeGp0 (s.cbuf.take s.clen) with
  | .ok i => exec i s
  | .error _ => .next s

/-- A word in `Idle`: the opcode word of a command (R141). -/
def gp0Idle (w : Word) (s : State) : Out :=
  if opLen (opcodeOf w) = 1 then dispatch { s with cbuf := s.cbuf.set 0 w, clen := 1, ctarget := 1 }
  else .next { s with cbuf := s.cbuf.set 0 w, clen := 1, ctarget := opLen (opcodeOf w), dstate := .filling }

/-- The buffer of a command being received is as R27 says: some word is there and one is still awaited. -/
def State.fillingOk (s : State) : Bool := decide (1 ≤ s.clen) && (decide (s.clen < s.ctarget) && decide (s.ctarget ≤ 12))

/-- A word in `Filling`: never examined as an opcode (R142); an inconsistent buffer drops it (R147; log entry 16). -/
def gp0Filling (w : Word) (s : State) : Out :=
  if s.fillingOk then
    if s.clen + 1 = s.ctarget then
      dispatch { s with cbuf := s.cbuf.set s.clen w, clen := s.clen + 1, dstate := .idle }
    else .next { s with cbuf := s.cbuf.set s.clen w, clen := s.clen + 1 }
  else .next { s with dstate := .idle }

/-- The handler of the open data phase (R140, R143). -/
def dataWord (w : Word) (s : State) : State :=
  match s.xkind with
  | .imageIn => imageInWord w s
  | .polyFlat => polyFlatWord w s
  | .polyGouraud => polyGouraudWord w s

/-- `GP0_WRITE(w)` (R140); a data word runs inside the lock (R90, R145; log entry 24). -/
def gp0Write (w : Word) (s : State) : Out :=
  match s.dstate with
  | .idle => gp0Idle w s
  | .filling => gp0Filling w s
  | .extraData => .next (locked (dataWord w) s)

/-- `GP1_WRITE(w)` (R350). -/
def gp1Write (w : Word) (s : State) : Out := exec (decodeGp1 w) s

/-- A command of this opcode may write VRAM: FILL, the primitives, copies, image-in (R90, R145). -/
def opWritesVram (op : BitVec 8) : Bool := op == 0x02#8 || (decide (0x20 ≤ op.toNat) && decide (op.toNat ≤ 0xBF))

/-- A word that waits for the lock: one that dispatches such a command, or a data word (R90). -/
def takesLock (s : State) : Bool :=
  match s.dstate with
  | .idle => false
  | .filling => s.fillingOk && (decide (s.clen + 1 = s.ctarget) && opWritesVram (opcodeOf (wordAt s.cbuf 0)))
  | .extraData => true

end Sys2Proof.Machine
end

