-- ==== Sys2Proof/Machine/Dma.lean ====
section
/-! DEFINITION. The DMA entry point (spec/42_transfers.md R205 to R213). -/

namespace Sys2Proof.Machine

/-- Forward `n` words of main memory, the first `4 * i` bytes after `a`, to `GP0_WRITE`, and go on; an absent address
stops the transfer there (R206, R210, R212). -/
def forward (a : Nat) (k : State → Out) : Nat → Nat → State → Out
  | 0, _, s => k s
  | n + 1, i, s =>
    match memRead s.mainMem (wordAddr (a + 4 * i)) with
    | none => .next s
    | some w => andThen (gp0Write w s) (forward a k n (i + 1))

/-- `BlockIn(base, n)` (R206). -/
def blockIn (base : Word) (n : Nat) (s : State) : Out := forward (wordAddr base.toNat) .next n 0 s

/-- `BlockOut(base, n)`, from its `i`-th word on: a read whose store fails has already advanced `RPOS` (R207, R212). -/
def blockOut (base : Word) : Nat → Nat → State → Out
  | 0, _, s => .next s
  | n + 1, i, s =>
    match memWrite s.mainMem (wordAddr (wordAddr base.toNat + 4 * i)) (gpuRead s).1 with
    | none => .next (gpuRead s).2
    | some m => blockOut base n (i + 1) { (gpuRead s).2 with mainMem := m }

/-- `n = hdr[31:24]`, the payload words of a list node (R210). -/
def nodeCount (hdr : Word) : Nat := (field hdr 24 8).toNat

/-- The end-of-list marker, `hdr[23:0] = 0xFFFFFF` (R210). -/
def isLastNode (hdr : Word) : Bool := field hdr 0 24 == 0xFFFFFF#24

/-- What a walk that outruns its bound is reported as: a hang, or the exhaustion of `LIST_FUEL` (R211, R416; log
entry 6). -/
def listStop : Fault :=
  match Config.listFuel with
  | none => .listNeverEnds
  | some _ => .listFuelExhausted

/-- `ListWalk` from a node on, at most `fuel` nodes more (R210, R211; log entry 6). -/
def listWalk : Nat → Nat → State → Out
  | 0, _, _ => .fault listStop
  | fuel + 1, ptr, s =>
    match memRead s.mainMem ptr with
    | none => .next s
    | some hdr =>
      forward ptr
        (fun t => if isLastNode hdr then .next t else listWalk fuel (wordAddr (field hdr 0 24).toNat) t)
        (nodeCount hdr) 1 s

/-- `LIST` of the control word (R205). -/
def ctrlList (ctrl : Word) : Bool := field ctrl 9 2 == 2#2

/-- The transfer itself, the lock held (R205). -/
def dmaBody (base : Word) (blockCount blockSize : BitVec 16) (ctrl : Word) (s : State) : Out :=
  if ctrlList ctrl then listWalk Config.listBound (wordAddr base.toNat) s
  else if flagBit ctrl 0 then blockIn base (blockCount.toNat * blockSize.toNat) s
  else blockOut base (blockCount.toNat * blockSize.toNat) 0 s

/-- The end of a call: the lock freed, then the completion signal (R205, R213). -/
def dmaEnd (s : State) : State := emit .dmaDone (releaseLock s)

/-- `DMA_TRANSFER(base, blockCount, blockSize, ctrl)` (R205); it waits while the lock is not free (R91). -/
def dmaTransfer (base : Word) (blockCount blockSize : BitVec 16) (ctrl : Word) (s : State) : Out :=
  if s.lock = .free then
    andThen (dmaBody base blockCount blockSize ctrl (acquireLock s)) fun t => .next (dmaEnd t)
  else .next s

end Sys2Proof.Machine
end

