-- ==== Sys2Proof/Machine/Calls.lean ====
section
/-! DEFINITION. The calls of the agents (spec/00_scope.md R13, spec/10_state.md R60 to R65), the wait for the lock
(R91), the order of calls (R88), and how an instruction is placed to be the next to run. -/

namespace Sys2Proof.Machine

/-- A port read: its value is returned to the bus master (R417; log entry 17). -/
def returning (w : Word) (s : State) : State := { s with returns := s.returns ++ [w] }

/-- One call, to completion (R13). -/
def runCall (c : Call) (s : State) : Out :=
  match c with
  | .gp0Write w => gp0Write w s
  | .gp1Write w => gp1Write w s
  | .gpuRead => .next (returning (gpuRead s).1 (gpuRead s).2)
  | .gpuStat => .next (returning s.gpuStat s)
  | .dmaTransfer base bc bs ctrl => dmaTransfer base bc bs ctrl s
  | .vsyncTick => .next (vsyncTick s)
  | .sinkAcquire => .next (if s.lock = .free then { s with lock := .sink } else s)
  | .sinkRelease => .next (if s.lock = .sink then { s with lock := .free } else s)
  | .clock dt => .next { s with now := s.now + dt }
  | .memStore a b => .next { s with mainMem := Sparse.set a.toNat b s.mainMem }
  | .memUnmap a => .next { s with mainMem := Sparse.erase a.toNat s.mainMem }

/-- A call that may write VRAM (R90). -/
def callTakesLock (c : Call) (s : State) : Bool :=
  match c with
  | .gp0Write _ => takesLock s
  | .gp1Write _ => false
  | .gpuRead => false
  | .gpuStat => false
  | .dmaTransfer _ _ _ _ => true
  | .vsyncTick => false
  | .sinkAcquire => false
  | .sinkRelease => false
  | .clock _ => false
  | .memStore _ _ => false
  | .memUnmap _ => false

/-- The call is held until the lock is free (R91). -/
def mustWait (c : Call) (s : State) : Bool := callTakesLock c s && decide (s.lock ≠ .free)

/-- While a call is held, the sink's release, if it is among the calls to come, lifts the wait (R91; log entry 10);
with no release to come nothing happens. -/
def whileWaiting (s : State) : State :=
  if s.lock = .sink ∧ Call.sinkRelease ∈ s.calls then
    { s with lock := .free, calls := s.calls.erase .sinkRelease }
  else s

/-- The next call in order (R88); with none the block is idle and holds all state (R415). -/
def nextCall (s : State) : Out :=
  match s.calls with
  | [] => .next s
  | c :: rest => if mustWait c s then .next (whileWaiting s) else runCall c { s with calls := rest }

/-- The words of an instruction given as one number, `nbits` of them significant (log entry 3). -/
def fetchWords (nbits w : Nat) : List Word :=
  (wordsOfBytes (tableBytes nbits w)).take (opLen (opcodeOf (wordAt (wordsOfBytes (tableBytes nbits w)) 0)))

/-- The sequencing registers with all but the last word of a command received, and the last word the next call
(log entry 3). The sink's lock, which would hold the call, is taken to be free. -/
def placeCommand (ws : List Word) (s : State) : State :=
  { s with
    lock := if s.lock = .sink then .free else s.lock,
    dstate := if ws.length ≤ 1 then .idle else .filling,
    cbuf := ws.dropLast ++ s.cbuf.drop ws.dropLast.length,
    clen := if ws.length ≤ 1 then s.clen else ws.length - 1,
    ctarget := if ws.length ≤ 1 then s.ctarget else ws.length,
    calls := .gp0Write (wordAt ws (ws.length - 1)) :: s.calls }

/-! ## The bus addresses of the two ports (R70, R86) -/

/-- The call a 32-bit bus write makes at a port's address; none elsewhere (R70). -/
def busWrite (addr data : Word) : Option Call :=
  if addr = Config.gp0Addr then some (.gp0Write data)
  else if addr = Config.gp1Addr then some (.gp1Write data) else none

/-- The call a 32-bit bus read makes at a port's address; none elsewhere (R70). -/
def busRead (addr : Word) : Option Call :=
  if addr = Config.gp0Addr then some .gpuRead
  else if addr = Config.gp1Addr then some .gpuStat else none

end Sys2Proof.Machine
end

