-- ==== Sys2Proof/Machine/Step.lean ====
section
/-! DEFINITION. One step: the next call of the environment, run to completion (spec/20_memory.md R88). -/

namespace Sys2Proof.Machine

/-- One step of the block. -/
def step (s : State) : Host.Outcome State Fault Refusal := nextCall s

/-- `s` with the instruction whose bits are `w` the very next to be fetched and run (log entry 3). -/
def State.withFetchWord (s : State) (nbits w : Nat) : State := placeCommand (fetchWords nbits w) s

end Sys2Proof.Machine
end

