-- ==== Sys2Proof/Safety.lean ====
section
/-! DEFINITION. What the claims call a well-formed state and a safe run: the ranges of spec/10_state.md and the
canonical form of the two memories. -/

namespace Sys2Proof.Machine

/-- The ranges of the sequencing registers (R27, R147): the buffer holds twelve words and, while a command is being
received, at least one is there, one is awaited and the target is that of the first word's opcode. -/
def State.sequencingWf (s : State) : Prop :=
  s.cbuf.length = 12 ∧
    (s.dstate = .filling →
      1 ≤ s.clen ∧ s.clen < s.ctarget ∧ s.ctarget = opLen (opcodeOf (wordAt s.cbuf 0)))

/-- The ranges of the image-in sub-state while its data phase is open (R28, R194, R195): the words still to come are
those of the pixels still to come. -/
def State.imageWf (s : State) : Prop :=
  s.dstate = .extraData → s.xkind = .imageIn →
    s.img.consistent = true ∧ s.img.xpos % 2 = 0 ∧
      s.img.xrem = dataWords s.img.xw s.img.xh - s.img.xpos / 2

/-- The ranges of the read-out registers while a read-out is in progress (R30, R199, R362). -/
def State.readWf (s : State) : Prop :=
  s.rd.ractive = true → (1 ≤ s.rd.rw ∧ s.rd.rw ≤ 1024) ∧ (1 ≤ s.rd.rh ∧ s.rd.rh ≤ 512) ∧
    s.rd.rpos < s.rd.rw * s.rd.rh

/-- VRAM's native view is in canonical form and inside VRAM (R37; log entry 1). -/
def State.vramWf (s : State) : Prop := Memory.wf (some vramUnlisted) vramBytes s.vram.native = true

/-- Main memory is in canonical form and inside the 24-bit address space (R70; log entry 9). -/
def State.memWf (s : State) : Prop := Memory.wf none mainBytes s.mainMem = true

/-- The hidden tags and flags of VRAM's cells are in canonical form: rising, no entry that says what an unlisted
cell has, and no tag in `F15` (R39, R71; log entry 11). -/
def State.hiddenWf (s : State) : Prop :=
  (Sparse.Rising s.vram.tags ∧ ∀ e ∈ s.vram.tags, e.2 ≠ defaultTag e.1) ∧
    (Sparse.Rising s.vram.flags ∧ ∀ e ∈ s.vram.flags, e.2 ≠ noFlags) ∧
    (s.vram.fmt = .f15 → s.vram.tags = [])

/-- Between two calls the block does not hold the VRAM lock (R90, R415, R417). -/
def State.quiet (s : State) : Prop := s.lock ≠ .block

/-- Every invariant of the model. -/
structure State.Inv (s : State) : Prop where
  sequencing : s.sequencingWf
  image : s.imageWf
  read : s.readWf
  vram : s.vramWf
  hidden : s.hiddenWf
  mem : s.memWf
  lock : s.quiet

/-- A step that does not stop. -/
def goesOn (o : Host.Outcome State Fault Refusal) : Prop := ∃ t, o = .next t

/-! ## Operands as the opcode's fields describe them (R119, R120, R122) -/

/-- `S` of an opcode, bit 1 (R119, R120, R122). -/
def opSemi (i : Instr) : Bool := i.opcode.getLsbD 1

/-- `RAW` of an opcode, bit 0 (R119, R122). -/
def opRaw (i : Instr) : Bool := i.opcode.getLsbD 0

/-- The polygon command an instruction is, if it is one (R119, R221). -/
def polygonOf (i : Instr) : Option PolyCmd :=
  match i.operands with
  | .flatTri o => some (flatTri o (opSemi i) (opRaw i))
  | .flatTriTex o => some (flatTriTex o (opSemi i) (opRaw i))
  | .flatQuad o => some (flatQuad o (opSemi i) (opRaw i))
  | .flatQuadTex o => some (flatQuadTex o (opSemi i) (opRaw i))
  | .gourTri o => some (gourTri o (opSemi i) (opRaw i))
  | .gourTriTex o => some (gourTriTex o (opSemi i) (opRaw i))
  | .gourQuad o => some (gourQuad o (opSemi i) (opRaw i))
  | .gourQuadTex o => some (gourQuadTex o (opSemi i) (opRaw i))
  | _ => none

/-- `(1, 8, 16)[size - 1]` with `size` the opcode's bits 4:3 (R122, R261). -/
def rectSide (i : Instr) : Nat :=
  match (i.opcode.extractLsb' 3 2).toNat with
  | 1 => 1
  | 2 => 8
  | _ => 16

/-- The rectangle command an instruction is, if it is one (R122, R261). -/
def rectangleOf (i : Instr) : Option RectCmd :=
  match i.operands with
  | .rectVar o => some (rectVar o (opSemi i) (opRaw i))
  | .rectVarTex o => some (rectVarTex o (opSemi i) (opRaw i))
  | .rectFix o => some (rectFix (rectSide i) o (opSemi i) (opRaw i))
  | .rectFixTex o => some (rectFixTex (rectSide i) o (opSemi i) (opRaw i))
  | _ => none

/-- The line or polyline command an instruction is, if it is one (R120, R281). -/
def lineOf (i : Instr) : Option LineCmd :=
  match i.operands with
  | .flatLine o => some (flatLine o (opSemi i))
  | .gourLine o => some (gourLine o (opSemi i))
  | _ => none

/-- `POLY` of a line opcode, bit 3 (R120). -/
def opPoly (i : Instr) : Bool := i.opcode.getLsbD 3

/-- `G` of a line opcode, bit 4, as the kind of its data phase (R120, R281). -/
def polyKind (i : Instr) : XKind := if i.opcode.getLsbD 4 then .polyGouraud else .polyFlat

/-- The opcode with the bits cleared that R129 calls ignored: `op[0]` and `op[2]` of lines, `op[4:0]` of copies and
transfers, `RAW` of untextured polygons and rectangles; of an `INFO` opcode of GP1 nothing is asked here. -/
def canonicalOp (op : BitVec 8) : BitVec 8 :=
  match opClass op with
  | 1 => if op.getLsbD 2 then op else op &&& 0xFE#8
  | 2 => op &&& 0xFA#8
  | 3 => if op.getLsbD 2 then op else op &&& 0xFE#8
  | 4 => op &&& 0xE0#8
  | 5 => op &&& 0xE0#8
  | 6 => op &&& 0xE0#8
  | _ => op

/-- The instruction may write VRAM: FILL, the primitives, copies and image-in (R90, R145). -/
def writesVram (i : Instr) : Bool := i.port == .gp0 && opWritesVram i.opcode

/-- The draw's CLUT selector where there is no texture; it is never read (R223). -/
def noClut : ClutSel := ⟨0#6, 0#9⟩

/-! ## Words in order -/

/-- Words given to GP0 one after another (R88). -/
def feed : List Word → State → Out
  | [], s => .next s
  | w :: ws, s => andThen (gp0Write w s) (feed ws)

/-- Half word `k` of a list of data words, the low half of each word first (R82). -/
def halfOf (ws : List Word) (k : Nat) : BitVec 16 := field (wordAt ws (k / 2)) (16 * (k % 2)) 16

/-- `n` reads of the read port: the values, oldest first, and the state after them (R362). -/
def drain : Nat → State → List Word × State
  | 0, s => ([], s)
  | n + 1, s => ((gpuRead s).1 :: (drain n (gpuRead s).2).1, (drain n (gpuRead s).2).2)

/-! ## The walk of a list (R210) -/

/-- The node after the one at `ptr`: none where the header or a word of the payload is absent, or the node is the last
(R210, R212). -/
def listNext (m : Memory) (ptr : Nat) : Option Nat :=
  match memRead m ptr with
  | none => none
  | some hdr =>
    if ((List.range (nodeCount hdr)).all fun i => (memRead m (wordAddr (ptr + 4 * (i + 1)))).isSome) && !isLastNode hdr
    then some (wordAddr (field hdr 0 24).toNat) else none

/-- The list goes on through `n` nodes, the first at `ptr`, to a node after them. -/
def listReaches (m : Memory) : Nat → Nat → Bool
  | 0, _ => true
  | n + 1, ptr =>
    match listNext m ptr with
    | none => false
    | some p => listReaches m n p

/-! ## Interpolation, written out (R231 to R237) -/

/-- In 16.16, on row `y` of an edge, a quantity that is `p` at its top and `q` at its bottom (R231, R234). -/
def edgeAt (e : Edge) (y p q : Int) : Int :=
  p * 65536 + Int.tdiv ((q - p) * 65536) (e.bottom.y - e.top.y) * (y - e.top.y)

/-- The column of an edge on row `y`, 16.16. -/
def edgeX (e : Edge) (y : Int) : Int := edgeAt e y e.top.x e.bottom.x

/-- The short edge of row `y` (R234). -/
def shortEdge (t : Tri) (y : Int) : Edge := if y < t.b.y then ⟨t.a, t.b⟩ else ⟨t.b, t.c⟩

/-- The left edge of a row whose span is not empty (R235). -/
def leftEdge (t : Tri) (y : Int) : Edge := if edgeX ⟨t.a, t.c⟩ y < edgeX (shortEdge t y) y then ⟨t.a, t.c⟩ else shortEdge t y

/-- The integer part of an attribute at a covered cell (R232, R237). -/
def triAttr (t : Tri) (f : Attrs → Int) (x y : Int) : Int :=
  (edgeAt (leftEdge t y) y (f (leftEdge t y).top.a) (f (leftEdge t y).bottom.a) +
    Int.tdiv ((edgeAt ⟨t.a, t.c⟩ t.b.y (f t.a.a) (f t.c.a) - f t.b.a * 65536) * 65536)
      (edgeX ⟨t.a, t.c⟩ t.b.y - t.b.x * 65536) * (x - (edgeX (leftEdge t y) y + 65535) / 65536)) / 65536

/-- The integer part of an attribute at a cell of the rectangle path (R240). -/
def rectAttr (p0 p1 p2 : Vert) (f : Attrs → Int) (x y : Int) : Int :=
  (f p0.a * 65536 + Int.tdiv ((f p1.a - f p0.a) * 65536) (p1.x - p0.x) * (x - p0.x) +
    Int.tdiv ((f p2.a - f p0.a) * 65536) (p2.y - p0.y) * (y - p0.y)) / 65536

/-- A pixel's colour and texel coordinate are those of a shading and of attributes at its cell: the flat colour, or the
interpolated one clamped to 0 to 255; texels modulo 256 (R225, R237). -/
def shadedBy (sh : Shading) (at' : (Attrs → Int) → Int) (px : Pixel) : Prop :=
  (sh.gouraud = false → px.r = sh.flat.r.toNat ∧ px.g = sh.flat.g.toNat ∧ px.b = sh.flat.b.toNat) ∧
  (sh.gouraud = true → (px.r : Int) = min (max (at' Attrs.r) 0) 255 ∧ (px.g : Int) = min (max (at' Attrs.g) 0) 255 ∧
    (px.b : Int) = min (max (at' Attrs.b) 0) 255) ∧
  (px.u.toNat : Int) = at' Attrs.u % 256 ∧ (px.v.toNat : Int) = at' Attrs.v % 256

/-! ## Cells -/

/-- The cell with this number is one of the `w` by `h` block at `(x, y)`, both taken modulo VRAM's size (R77). -/
def inBlock (x y w h n : Nat) : Prop := ∃ i j : Nat, i < w ∧ j < h ∧ n = cellIndex (x + i : Nat) (y + j : Nat)

/-- The cell `(x, y)` holds texels of the page of an entry: columns modulo 1024 (R330). -/
def inFootprint (e : TpcEntry) (x y : Int) : Prop :=
  (pageY (e.page.extractLsb' 4 1) ≤ y ∧ y < pageY (e.page.extractLsb' 4 1) + 256) ∧
    ∃ k : Int, 0 ≤ k ∧ k < pageWidth e.eight ∧ x = (pageX (e.page.extractLsb' 0 4) + k) % 1024

/-- An image-in whose rectangle is not reported yet is under way (R195). -/
def State.midImage (s : State) : Prop := s.dstate = .extraData ∧ s.xkind = .imageIn

/-- Every cached page decodes as VRAM does now, but for pages an unfinished image-in will invalidate (R40, R94, R195). -/
def State.pagesCoherent (s : State) : Prop :=
  ∀ e ∈ s.tpc, (s.midImage ∧ footprintMeets e s.img.target = true) ∨
    ∀ u v : BitVec 8, e.idx u v = TpcEntry.idx { e with image := s.vram.native } u v

/-- The palette of `n` entries at this selector has an entry in the rectangle. -/
def paletteMeets (k : ClutSel) (n : Nat) (r : Rect) : Prop :=
  ∃ i : Nat, i < n ∧ r.has ((clutX k + i) % 1024) (clutY k) = true

/-- Every stored solid flag is what `Solid` says of VRAM now, but for palettes an unfinished image-in will invalidate
(R195, R338). -/
def State.solidCoherent (s : State) : Prop :=
  ∀ k : ClutSel,
    ((s.vram.flagsAt (clutX k) (clutY k)).s16v = true → (s.midImage ∧ paletteMeets k 16 s.img.target) ∨
      (s.vram.flagsAt (clutX k) (clutY k)).s16 = paletteSolid s.vram k 16) ∧
    ((s.vram.flagsAt (clutX k) (clutY k)).s256v = true → (s.midImage ∧ paletteMeets k 256 s.img.target) ∨
      (s.vram.flagsAt (clutX k) (clutY k)).s256 = paletteSolid s.vram k 256)

/-- Two states that differ at most in what no command can read: `VFMT`, tags, palette flags, the page cache (R417). -/
def sameSeen (s t : State) : Prop :=
  t = { s with tpc := t.tpc, vram := { t.vram with native := s.vram.native } }

end Sys2Proof.Machine
end

