-- ==== Sys2Proof/Certificates/Slice0/Obligations.lean ====
section
/-! DEFINITION. The statements for the provers, in the order of OBLIGATIONS.json. -/

section

open Sys2Proof Sys2Proof.Machine

/-! ## Encoding -/

/-- Decoding the encoding of a well-formed instruction, whatever follows it, gives it back (R110 to R127). -/
def Obligations.DecodeUndoesEncode : Prop :=
  ∀ (i : Instr) (rest : List Word), i.wf = true → decode i.port (encode i ++ rest) = .ok (i, rest)

/-- Words written out from the encoding tables decode to the instructions they stand for (R119 to R127). -/
def Obligations.HandWrittenWordsDecode : Prop :=
  decode .gp0 [0x020000FF#32, 0x00000000#32, 0x00040010#32] = .ok (.fill ⟨⟨255, 0, 0⟩, 0, 0, 16, 4⟩, []) ∧
  decode .gp0 [0x200000FF#32, 0x00000000#32, 0x00000004#32, 0x00040000#32] =
    .ok (.polyF3 ⟨⟨255, 0, 0⟩, ⟨0, 0⟩, ⟨4, 0⟩, ⟨0, 4⟩⟩, []) ∧
  decode .gp0 [0x500000FF#32, 0x07FF07FF#32, 0x0000FF00#32, 0x00020003#32] =
    .ok (.lineG ⟨⟨255, 0, 0⟩, ⟨0x7FF, 0x7FF⟩, ⟨0, 255, 0⟩, ⟨3, 2⟩⟩, []) ∧
  decode .gp0 [0x65808080#32, 0x00010002#32, 0x78110304#32, 0x00060005#32] =
    .ok (.rectVTR ⟨⟨128, 128, 128⟩, ⟨2, 1⟩, ⟨4, 3⟩, ⟨0x11, 0x1E0⟩, 5, 6⟩, []) ∧
  decode .gp0 [0x80000000#32, 0x00020001#32, 0x00040003#32, 0x00000000#32] =
    .ok (.vcopy ⟨1, 2, 3, 4, 1024, 512⟩, []) ∧
  decode .gp0 [0xE100012A#32] = .ok (.setmode ⟨⟨10, 0, 1, 2⟩, false, false⟩, []) ∧
  decode .gp1 [0x08000025#32] = .ok (.g1Mode ⟨1, true, false, false, true, false, false⟩, [])

/-- Every GP0 word heads a command of its own opcode as long as its words are there, every GP1 word is one command of
its own opcode, and what is decoded is well formed (R129, R133). -/
def Obligations.EveryWordDecodes : Prop :=
  (∀ (w : Word) (rest : List Word), opLen (opcodeOf w) ≤ rest.length + 1 →
    ∃ i, decode .gp0 (w :: rest) = .ok (i, (w :: rest).drop (opLen (opcodeOf w))) ∧
      i.port = .gp0 ∧ i.opcode = opcodeOf w ∧ i.wf = true) ∧
  ∀ (w : Word) (rest : List Word),
    ∃ i, decode .gp1 (w :: rest) = .ok (i, rest) ∧
      i.port = .gp1 ∧ i.opcode = (gp1OpcodeOf w).setWidth 8 ∧ i.wf = true

/-- The closed form of the length table, and its largest entry (R111). -/
def Obligations.LengthTableClosedForm : Prop :=
  ∀ op : BitVec 8,
    opLen op = (if op = 0x02#8 then 3
      else if 0x20 ≤ op.toNat ∧ op.toNat ≤ 0x3F then
        1 + (if op.getLsbD 3 then 4 else 3) + (if op.getLsbD 4 then (if op.getLsbD 3 then 3 else 2) else 0) +
          (if op.getLsbD 2 then (if op.getLsbD 3 then 4 else 3) else 0)
      else if 0x40 ≤ op.toNat ∧ op.toNat ≤ 0x4F then 3
      else if 0x50 ≤ op.toNat ∧ op.toNat ≤ 0x5F then 4
      else if 0x60 ≤ op.toNat ∧ op.toNat ≤ 0x7F then
        2 + (if op.getLsbD 2 then 1 else 0) + (if op.extractLsb' 3 2 = 0#2 then 1 else 0)
      else if 0x80 ≤ op.toNat ∧ op.toNat ≤ 0x9F then 4
      else if 0xA0 ≤ op.toNat ∧ op.toNat ≤ 0xDF then 3
      else 1) ∧
    opLen op ≤ 12

/-- An alias opcode does what the canonical opcode does with the same words (R129). -/
def Obligations.AliasesBehaveAsCanonical : Prop :=
  ∀ (op : BitVec 8) (ws : List Word) (s : State),
    exec (gp0Instr op ws) s = exec (gp0Instr (canonicalOp op) ws) s

/-! ## The state machine and the step -/

/-- A word in `Idle` is stored as the first of its command; a one-word command is dispatched in the same call, any
other is awaited (R141). -/
def Obligations.IdleWordOpensCommand : Prop :=
  ∀ (w : Word) (s : State), s.dstate = .idle → s.cbuf.length = 12 →
    (opLen (opcodeOf w) = 1 →
      gp0Write w s = exec (gp0Instr (opcodeOf w) [w]) { s with cbuf := s.cbuf.set 0 w, clen := 1, ctarget := 1 }) ∧
    (opLen (opcodeOf w) ≠ 1 →
      gp0Write w s = .next { s with cbuf := s.cbuf.set 0 w, clen := 1, ctarget := opLen (opcodeOf w),
                                    dstate := .filling })

/-- A word in `Filling` is an argument whatever its bits: it is appended, and the word that fills the buffer dispatches
the command with `DSTATE` back at `Idle`; the buffer never holds more than twelve words (R142). -/
def Obligations.FillingWordIsArgument : Prop :=
  ∀ (w : Word) (s : State), s.Inv → s.dstate = .filling →
    s.clen + 1 ≤ 12 ∧
    (s.clen + 1 < s.ctarget →
      gp0Write w s = .next { s with cbuf := s.cbuf.set s.clen w, clen := s.clen + 1 }) ∧
    (s.clen + 1 = s.ctarget →
      gp0Write w s = exec (gp0Instr (opcodeOf (wordAt s.cbuf 0)) (s.cbuf.take s.clen ++ [w]))
        { s with cbuf := s.cbuf.set s.clen w, clen := s.clen + 1, dstate := .idle })

/-- A step whose call completes a command runs exactly the instruction its words decode to, at the state with the call
taken off the queue and the word stored; so does the step after `withFetchWord`, at the state with the command's words in
the buffer (R88, R140, R350; the last clause is the model's, log entry 3). -/
def Obligations.StepRunsDecodedInstruction : Prop :=
  (∀ (w : Word) (rest : List Call) (i : Instr) (s : State), s.calls = .gp0Write w :: rest → s.dstate = .idle →
    s.cbuf.length = 12 → decode .gp0 [w] = .ok (i, []) →
    step s = exec i { s with calls := rest, cbuf := s.cbuf.set 0 w, clen := 1, ctarget := 1 }) ∧
  (∀ (w : Word) (rest : List Call) (i : Instr) (s : State), s.Inv → s.calls = .gp0Write w :: rest →
    s.dstate = .filling → s.lock = .free → s.clen + 1 = s.ctarget →
    decode .gp0 (s.cbuf.take s.clen ++ [w]) = .ok (i, []) →
    step s = exec i { s with calls := rest, cbuf := s.cbuf.set s.clen w, clen := s.clen + 1, dstate := .idle }) ∧
  (∀ (w : Word) (rest : List Call) (i : Instr) (s : State), s.calls = .gp1Write w :: rest →
    decode .gp1 [w] = .ok (i, []) → step s = exec i { s with calls := rest }) ∧
  (∀ (nbits w : Nat) (i : Instr) (s : State), s.cbuf.length = 12 → s.lock ≠ .block →
    decodeTableWord nbits w = some i →
    step (s.withFetchWord nbits w) = exec i { s with
      lock := .free, dstate := .idle,
      cbuf := fetchWords nbits w ++ s.cbuf.drop (fetchWords nbits w).length,
      clen := (fetchWords nbits w).length, ctarget := (fetchWords nbits w).length })

/-- The invariant holds after power-on, whatever VRAM holds and whatever the clock says, and both caches are coherent
(R40, R41, R430; that `State.reset` is such a power-on is the model's choice, log entries 1 and 8). -/
def Obligations.PowerOnHasInvariant : Prop :=
  State.reset.Inv ∧
    ∀ (native : Memory) (now : Nat), Memory.wf (some vramUnlisted) vramBytes native = true →
      (State.powerOn native now).Inv ∧ (State.powerOn native now).pagesCoherent ∧
        (State.powerOn native now).solidCoherent

/-- Every step keeps the invariant: the ranges of R27, R28 and R30, the canonical form of both memories and of the
hidden bits, and a lock not held between calls. -/
def Obligations.EveryStepKeepsInvariant : Prop :=
  ∀ s t : State, s.Inv → step s = .next t → t.Inv

/-- No instruction faults or is refused, in any state; no step is ever refused, and every step goes on but that of a
linked-list DMA call whose list outruns the bound of the walk (R211, R401, R416; the bound is log entry 6). -/
def Obligations.OnlyAnUnendedListStops : Prop :=
  (∀ (i : Instr) (s : State), goesOn (exec i s)) ∧
  (∀ (s : State) (r : Refusal), step s ≠ .refused r) ∧
  ∀ s : State,
    (∀ (base ctrl : Word) (bc bs : BitVec 16) (rest : List Call),
      s.calls = .dmaTransfer base bc bs ctrl :: rest → ctrlList ctrl = true →
        listReaches s.mainMem Config.listBound (wordAddr base.toNat) = false) → goesOn (step s)

/-- What no command can read never matters: two states that differ only in the format, the tags, the palette flags
and the page cache take steps that differ only there (R79, R339, R342). -/
def Obligations.HiddenStateIsInvisible : Prop :=
  ∀ s s' t : State, sameSeen s s' → step s = .next t → ∃ t', step s' = .next t' ∧ sameSeen t t'

/-! ## The lock -/

/-- A command that may write VRAM acquires the lock before its effect and releases it after; inside a DMA call, which
holds it, it does neither (R90, R145). Any other command leaves the lock as it is, and no trace but GP1 05's refresh. -/
def Obligations.WritingCommandsAreBracketed : Prop :=
  (∀ (i : Instr) (s : State), writesVram i = true → s.lock = .free →
    ∃ t, exec i (acquireLock s) = .next t ∧ exec i s = .next (releaseLock t) ∧ t.lock = .block) ∧
  ∀ (i : Instr) (s t : State), writesVram i = false → exec i s = .next t →
    t.lock = s.lock ∧ t.vram.native = s.vram.native ∧ ((∀ o, i ≠ .g1Origin o) → t.trace = s.trace)

/-- While the sink holds the lock a call that may write VRAM waits, and only the sink's release, when it is among the
calls to come, lifts the wait (R91; that the release may overtake the held call is the model's choice, log entry 10). -/
def Obligations.HeldLockHoldsCalls : Prop :=
  ∀ (c : Call) (rest : List Call) (s : State), s.calls = c :: rest → s.lock = .sink → callTakesLock c s = true →
    (.sinkRelease ∉ rest → step s = .next s) ∧
    (.sinkRelease ∈ rest → step s = .next { s with lock := .free, calls := c :: rest.erase .sinkRelease })

/-! ## Commands without effect, FLUSH -/

/-- NOP, the unrecognised GP0 opcodes, `G1.ACK` and the reserved GP1 opcodes change nothing, as instructions; as words
they change nothing but the buffer, one word long, and the next GP0 word is an opcode word again (R150, R152, R353,
R363). -/
def Obligations.ReservedCommandsDoNothing : Prop :=
  (∀ (i : Instr) (s : State), i.operands = .none → i ≠ .flush → i ≠ .g1Reset → i ≠ .g1Abort →
    exec i s = .next s ∧ (encode i).length = 1) ∧
  (∀ (w : Word) (s : State), s.dstate = .idle →
    opcodeOf w = 0x00#8 ∨ (0x03 ≤ (opcodeOf w).toNat ∧ (opcodeOf w).toNat ≤ 0x1F) ∨ opcodeOf w = 0xE0#8 ∨
      0xE7 ≤ (opcodeOf w).toNat →
    gp0Write w s = .next { s with cbuf := s.cbuf.set 0 w, clen := 1, ctarget := 1 }) ∧
  ∀ (w : Word) (s : State),
    gp1OpcodeOf w = 0x02#6 ∨ (0x09 ≤ (gp1OpcodeOf w).toNat ∧ (gp1OpcodeOf w).toNat ≤ 0x0F) ∨
      0x20 ≤ (gp1OpcodeOf w).toNat →
    gp1Write w s = .next s

/-- FLUSH leaves no page valid and everything else unchanged (R151, R335). -/
def Obligations.FlushInvalidatesEveryPage : Prop :=
  ∀ s : State, ∃ t, exec .flush s = .next t ∧ (∀ p d, tpcValid t.tpc p d = false) ∧ t = { s with tpc := t.tpc }

/-! ## Drawing registers -/

/-- E1 to E6 write exactly their register, all fields at once (R170 to R176). -/
def Obligations.ModeSettingWritesItsRegister : Prop :=
  ∀ s : State,
    (∀ o, exec (.setmode o) s = .next { s with dm := ⟨o.page.tpx, o.page.tpy, o.page.abr, o.page.tdepth, o.dtd, o.dfe⟩ }) ∧
    (∀ o, exec (.settw o) s = .next { s with tw := ⟨o.mx, o.my, o.ox, o.oy⟩ }) ∧
    (∀ o, exec (.setclip1 o) s = .next { s with clip := ⟨o.x, o.y, s.clip.x2, s.clip.y2⟩ }) ∧
    (∀ o, exec (.setclip2 o) s = .next { s with clip := ⟨s.clip.x1, s.clip.y1, o.x, o.y⟩ }) ∧
    (∀ o, exec (.setofs o) s = .next { s with ofs := ⟨o.x, o.y⟩ }) ∧
    (∀ o, exec (.setmask o) s = .next { s with msk := ⟨o.setBit, o.chkBit⟩ })

/-- A drawing register is written only by its command and by reset; of the primitives only a textured polygon writes
one, the page attribute in `DM` (R26, R224). -/
def Obligations.DrawingRegistersWrittenByTheirCommands : Prop :=
  ∀ (i : Instr) (s t : State), i ≠ .g1Reset → exec i s = .next t →
    ((∀ o, i ≠ .settw o) → t.tw = s.tw) ∧
    ((∀ o, i ≠ .setclip1 o ∧ i ≠ .setclip2 o) → t.clip = s.clip) ∧
    ((∀ o, i ≠ .setofs o) → t.ofs = s.ofs) ∧
    ((∀ o, i ≠ .setmask o) → t.msk = s.msk) ∧
    ((∀ o, i ≠ .setmode o) → (∀ c, polygonOf i = some c → c.tex = none) → t.dm = s.dm) ∧
    ∀ c k a, polygonOf i = some c → c.tex = some (k, a) → t.dm = s.dm ∨ t.dm = s.dm.withPage a

/-- `TwMap` passes the upper five bits of each coordinate through the derived tables; written out it is the masked form
of R303; with the window disabled the tables and the map are identities (R22, R303). -/
def Obligations.TextureWindowMap : Prop :=
  (∀ (t : TexWindow) (i : BitVec 5), t.twu i = (i &&& ~~~t.mx) ||| (t.ox &&& t.mx) ∧
    t.twv i = (i &&& ~~~t.my) ||| (t.oy &&& t.my) ∧ (t.enabled = true ↔ t.mx ≠ 0#5 ∨ t.my ≠ 0#5) ∧
    (t.enabled = false → t.twu i = i ∧ t.twv i = i)) ∧
  ∀ (t : TexWindow) (u v : BitVec 8),
    t.map u v = (t.twu (u.extractLsb' 3 5) ++ u.extractLsb' 0 3, t.twv (v.extractLsb' 3 5) ++ v.extractLsb' 0 3) ∧
    t.map u v =
      ((u &&& ~~~(t.mx ++ 0#3)) ||| ((t.ox &&& t.mx) ++ 0#3), (v &&& ~~~(t.my ++ 0#3)) ||| ((t.oy &&& t.my) ++ 0#3)) ∧
    (t.enabled = false → t.map u v = (u, v))

/-! ## The pixel codec and VRAM -/

/-- The codec's round trips (R73). -/
def Obligations.PixelCodecRoundTrip : Prop :=
  (∀ p : BitVec 16, encode15 (decode15 p) = p) ∧
  ∀ c : BitVec 25, decode15 (encode15 c) = c ↔
    (c.extractLsb' 16 3 = 0#3 ∧ c.extractLsb' 8 3 = 0#3 ∧ c.extractLsb' 0 3 = 0#3)

/-- The packed word after a write, and that no other cell's packed word changes (R71, R75, R77). -/
def Obligations.WriteReplacesOnePackedWord : Prop :=
  ∀ (v : Vram) (x y x' y' : Int) (p : BitVec 16),
    ((x % 1024 = x' % 1024 ∧ y % 512 = y' % 512) →
      (v.write x y p).packed x' y' = 0#5 ++ v.tag x' y' ++ packPixel v.fmt p ∧ (v.write x y p).read x' y' = p) ∧
    (¬ (x % 1024 = x' % 1024 ∧ y % 512 = y' % 512) → (v.write x y p).packed x' y' = v.packed x' y')

/-- A format conversion rewrites every packed word as R78 says and changes no native view (R78, R79). -/
def Obligations.FormatConversionKeepsPixels : Prop :=
  ∀ (v : Vram) (x y : Int),
    (v.fmt = .f15 → (v.convertTo .f24).packed x y = 0#5 ++ BitVec.ofNat 2 (1 + (x % 1024).toNat % 3) ++
      ((v.read x y).extractLsb' 15 1 ++ 0#8 ++ v.read x y)) ∧
    (v.fmt = .f24 → (v.convertTo .f15).packed x y = 0#7 ++ decode15 (v.read x y)) ∧
    (∀ f, (v.convertTo f).read x y = v.read x y ∧ (v.convertTo f).fmt = f) ∧
    ∀ f, v.fmt = f → v.convertTo f = v

/-- With check-mask enabled no command but FILL changes a cell whose mask bit is set; with set-mask enabled every cell
a command but FILL changes has its mask bit set afterwards; so does a data word (R76, R307, R309). -/
def Obligations.MaskModeGovernsWrites : Prop :=
  (∀ (i : Instr) (s t : State) (x y : Int), (∀ o, i ≠ .fill o) → exec i s = .next t →
    t.vram.read x y ≠ s.vram.read x y →
      (s.msk.chk = true → maskBit (s.vram.read x y) = false) ∧ (s.msk.set = true → maskBit (t.vram.read x y) = true)) ∧
  ∀ (w : Word) (s : State) (x y : Int), (dataWord w s).vram.read x y ≠ s.vram.read x y →
    (s.msk.chk = true → maskBit (s.vram.read x y) = false) ∧
      (s.msk.set = true → maskBit ((dataWord w s).vram.read x y) = true)

/-! ## The pixel pipeline -/

/-- An untextured pixel: the mask check, the blend of R308 where `S` asks for it, the mask bit, the write (R300, R302,
R307 to R309). -/
def Obligations.UntexturedPixelPipeline : Prop :=
  ∀ (m : RenderMode) (v : Vram) (p : Pixel), m.textured = false → p.r < 256 → p.g < 256 → p.b < 256 →
    (m.chk = true ∧ maskBit (v.read p.x p.y) = true → plot m v p = v) ∧
    (¬ (m.chk = true ∧ maskBit (v.read p.x p.y) = true) →
      (m.semi = false → (plot m v p).read p.x p.y =
        bit m.set ++ BitVec.ofNat 5 (p.b / 8) ++ BitVec.ofNat 5 (p.g / 8) ++ BitVec.ofNat 5 (p.r / 8)) ∧
      (m.semi = true → ((plot m v p).read p.x p.y).getLsbD 15 = m.set ∧
        ∀ lo k : Nat, (lo, k) ∈ [(0, p.r), (5, p.g), (10, p.b)] →
          (((plot m v p).read p.x p.y).extractLsb' lo 5).toNat =
            (match m.abr.toNat with
             | 0 => (((v.read p.x p.y).extractLsb' lo 5).toNat + k / 8) / 2
             | 1 => min 31 (((v.read p.x p.y).extractLsb' lo 5).toNat + k / 8)
             | 2 => ((v.read p.x p.y).extractLsb' lo 5).toNat - k / 8
             | _ => min 31 (((v.read p.x p.y).extractLsb' lo 5).toNat + k / 8 / 4))))

/-- A textured pixel: a zero texel leaves VRAM as it is, whatever the mode, and so does a protected destination; any
other keeps its mask bit. Its colour is the texel's with `RAW`, else modulated by `min(31, (c * k) >> 7)`; where `S` asks
for it and the texel's bit 15 is set it is blended with the destination as R308 says (R300, R301, R305, R307 to R309). -/
def Obligations.TexturedPixelPipeline : Prop :=
  ∀ (m : RenderMode) (v : Vram) (p : Pixel), m.textured = true →
    (texel m v p.u p.v = 0#16 ∨ (m.chk = true ∧ maskBit (v.read p.x p.y) = true) → plot m v p = v) ∧
    (texel m v p.u p.v ≠ 0#16 → ¬ (m.chk = true ∧ maskBit (v.read p.x p.y) = true) →
      ((plot m v p).read p.x p.y).getLsbD 15 = ((texel m v p.u p.v).getLsbD 15 || m.set) ∧
      (m.semi = false ∨ (texel m v p.u p.v).getLsbD 15 = false →
        (m.raw = true → ((plot m v p).read p.x p.y).extractLsb' 0 15 = (texel m v p.u p.v).extractLsb' 0 15) ∧
        (m.raw = false → ∀ lo k : Nat, (lo, k) ∈ [(0, p.r), (5, p.g), (10, p.b)] →
          (((plot m v p).read p.x p.y).extractLsb' lo 5).toNat =
            min 31 (((texel m v p.u p.v).extractLsb' lo 5).toNat * k / 128))) ∧
      (m.semi = true → (texel m v p.u p.v).getLsbD 15 = true →
        ∀ lo k src : Nat, (lo, k) ∈ [(0, p.r), (5, p.g), (10, p.b)] →
          src = (if m.raw then ((texel m v p.u p.v).extractLsb' lo 5).toNat
            else min 31 (((texel m v p.u p.v).extractLsb' lo 5).toNat * k / 128)) →
          (((plot m v p).read p.x p.y).extractLsb' lo 5).toNat =
            (match m.abr.toNat with
             | 0 => (((v.read p.x p.y).extractLsb' lo 5).toNat + src) / 2
             | 1 => min 31 (((v.read p.x p.y).extractLsb' lo 5).toNat + src)
             | 2 => ((v.read p.x p.y).extractLsb' lo 5).toNat - src
             | _ => min 31 (((v.read p.x p.y).extractLsb' lo 5).toNat + src / 4))))

/-- The texel of an indexed depth is a palette entry: at depth 0 by nibble `u[1:0]` of its cell, at depth 1 by byte
`u[0]`, at depths 2 and 3 the cell itself (R304, R330). -/
def Obligations.TexelFetchByDepth : Prop :=
  ∀ (m : RenderMode) (v : Vram) (a b : BitVec 8),
    (m.tdepth = 0#2 → ∃ k : Nat, k < 16 ∧ texelAt m v a b = v.read (16 * m.clut.cx.toNat + k : Nat) m.clut.cy.toNat ∧
      ∀ j, j < 4 → k.testBit j = (v.read (64 * m.tpx.toNat + a.toNat / 4 : Nat)
        (256 * m.tpy.toNat + b.toNat : Nat)).getLsbD (4 * (a.toNat % 4) + j)) ∧
    (m.tdepth = 1#2 → ∃ k : Nat, k < 256 ∧ texelAt m v a b = v.read (16 * m.clut.cx.toNat + k : Nat) m.clut.cy.toNat ∧
      ∀ j, j < 8 → k.testBit j = (v.read (64 * m.tpx.toNat + a.toNat / 2 : Nat)
        (256 * m.tpy.toNat + b.toNat : Nat)).getLsbD (8 * (a.toNat % 2) + j)) ∧
    (m.tdepth = 2#2 ∨ m.tdepth = 3#2 →
      texelAt m v a b = v.read (64 * m.tpx.toNat + a.toNat : Nat) (256 * m.tpy.toNat + b.toNat : Nat))

/-! ## Primitives -/

/-- A polygon command draws its pixels in order with its own page attribute written first, reports the bounding box of
its vertices inside the clip rectangle, and changes nothing else (R221, R224, R226, R242). -/
def Obligations.PolygonsDrawTheirPixels : Prop :=
  ∀ (i : Instr) (c : PolyCmd) (s : State), polygonOf i = some c → s.lock = .free →
    ∃ t, exec i s = .next t ∧
      t = { s with dm := t.dm, vram := t.vram, tpc := t.tpc, dirty := t.dirty,
                   trace := s.trace ++ [.acquire, .release] } ∧
      t.dm = (match c.tex with
        | none => s.dm
        | some (_, a) => ⟨a.tpx, a.tpy, a.abr, a.tdepth, s.dm.dtd, s.dm.dfe⟩) ∧
      t.vram.native = (plotAll (State.mode { s with dm := t.dm } c.textured c.raw c.semi c.clut) s.vram
        (c.pixels s.ofs s.clip.rect)).native ∧
      (∀ a : Nat, (∀ p ∈ c.pixels s.ofs s.clip.rect, a / 2 ≠ cellIndex p.x p.y) →
        vramByte t.vram.native a = vramByte s.vram.native a) ∧
      t.vram.fmt = s.vram.fmt ∧ t.vram.tags = s.vram.tags ∧
      (((c.box s.ofs).inter s.clip.rect).isEmpty = true → t.dirty = s.dirty) ∧
      (((c.box s.ofs).inter s.clip.rect).isEmpty = false →
        t.dirty = some (bbox s.dirty ((c.box s.ofs).inter s.clip.rect)) ∧
          ∀ e ∈ t.tpc, footprintMeets e ((c.box s.ofs).inter s.clip.rect) = false)

/-- A rectangle or sprite command draws its pixels in order, reports its extent inside the clip rectangle, and changes
nothing else, no drawing register either (R261, R266). -/
def Obligations.RectanglesDrawTheirPixels : Prop :=
  ∀ (i : Instr) (c : RectCmd) (s : State), rectangleOf i = some c → s.lock = .free →
    ∃ t, exec i s = .next t ∧
      t = { s with vram := t.vram, tpc := t.tpc, dirty := t.dirty, trace := s.trace ++ [.acquire, .release] } ∧
      t.vram.native = (plotAll (s.mode c.textured c.raw c.semi c.clut) s.vram (c.pixels s.ofs s.clip.rect)).native ∧
      (∀ a : Nat, (∀ p ∈ c.pixels s.ofs s.clip.rect, a / 2 ≠ cellIndex p.x p.y) →
        vramByte t.vram.native a = vramByte s.vram.native a) ∧
      t.vram.fmt = s.vram.fmt ∧ t.vram.tags = s.vram.tags ∧
      (((c.extent s.ofs).inter s.clip.rect).isEmpty = true → t.dirty = s.dirty) ∧
      (((c.extent s.ofs).inter s.clip.rect).isEmpty = false →
        t.dirty = some (bbox s.dirty ((c.extent s.ofs).inter s.clip.rect)) ∧
          ∀ e ∈ t.tpc, footprintMeets e ((c.extent s.ofs).inter s.clip.rect) = false)

/-- The cells of a rectangle are those of its extent inside the clip rectangle, each once, rows top to bottom and cells
left to right, with texels advancing one for one modulo 256 (R261 to R263, R265). -/
def Obligations.RectangleCoversItsExtent : Prop :=
  ∀ (c : RectCmd) (ofs : DrawOffset) (clip : Rect),
    ((c.pixels ofs clip).map fun p => (p.x, p.y)).Nodup ∧
    (c.pixels ofs clip).Pairwise (fun a b => a.y < b.y ∨ (a.y = b.y ∧ a.x < b.x)) ∧
    (∀ x y : Int, (∃ p ∈ c.pixels ofs clip, p.x = x ∧ p.y = y) ↔
      ((vertex ofs c.p).1 ≤ x ∧ x < (vertex ofs c.p).1 + c.w) ∧
        ((vertex ofs c.p).2 ≤ y ∧ y < (vertex ofs c.p).2 + c.h) ∧ clip.has x y = true) ∧
    ∀ p ∈ c.pixels ofs clip, p.r = c.c.r.toNat ∧ p.g = c.c.g.toNat ∧ p.b = c.c.b.toNat ∧
      (p.u.toNat : Int) = (c.uv.u.toNat + (p.x - (vertex ofs c.p).1)) % 256 ∧
      (p.v.toNat : Int) = (c.uv.v.toNat + (p.y - (vertex ofs c.p).2)) % 256

/-- An opaque untextured rectangle under no mask check writes `to555` of its colour, with the mask bit of set-mask, to
every cell of its extent inside the clip rectangle, and no other cell changes (R262, R267, R302). -/
def Obligations.FlatRectangleWritesItsColour : Prop :=
  ∀ (i : Instr) (c : RectCmd) (s : State), rectangleOf i = some c → c.tex = none → c.semi = false →
    s.lock = .free → s.msk.chk = false →
    ∃ t, exec i s = .next t ∧ ∀ x y : Nat, x < 1024 → y < 512 →
      t.vram.read x y =
        if ((c.extent s.ofs).inter s.clip.rect).has x y then orMask (to555 c.c) s.msk.set else s.vram.read x y

/-- A single line with both endpoints inside the clip rectangle plots its pixels and reports the box of its endpoints;
any other does nothing (R281, R282, R286). -/
def Obligations.LinesDrawWhenInside : Prop :=
  ∀ (i : Instr) (c : LineCmd) (s : State), lineOf i = some c → opPoly i = false → s.lock = .free →
    (lineAccepted s.clip (vertex s.ofs c.v0) (vertex s.ofs c.v1) = false →
      exec i s = .next { s with trace := s.trace ++ [.acquire, .release] }) ∧
    (lineAccepted s.clip (vertex s.ofs c.v0) (vertex s.ofs c.v1) = true →
      ∃ t, exec i s = .next t ∧
        t = { s with vram := t.vram, tpc := t.tpc, dirty := t.dirty, trace := s.trace ++ [.acquire, .release] } ∧
        t.vram.native = (plotAll (s.mode false false c.semi noClut) s.vram
          (linePixels (vertex s.ofs c.v0) (vertex s.ofs c.v1) c.c0 c.c1)).native ∧
        (∀ a : Nat, (∀ p ∈ lineCells (vertex s.ofs c.v0) (vertex s.ofs c.v1), a / 2 ≠ cellIndex p.1 p.2) →
          vramByte t.vram.native a = vramByte s.vram.native a) ∧
        t.vram.fmt = s.vram.fmt ∧ t.vram.tags = s.vram.tags ∧
        t.dirty = some (bbox s.dirty (lineBox (vertex s.ofs c.v0) (vertex s.ofs c.v1))) ∧
        ∀ e ∈ t.tpc, footprintMeets e (lineBox (vertex s.ofs c.v0) (vertex s.ofs c.v1)) = false)

/-- A polyline command draws its first segment opaque, opens its data phase and, asked to be semi-transparent, raises
its diagnostic the first time only, before its first cell (R281, R293, R402, R403). -/
def Obligations.PolylinesOpenTheirDataPhase : Prop :=
  ∀ (i : Instr) (c : LineCmd) (s : State), lineOf i = some c → opPoly i = true → s.lock = .free →
    ∃ t, exec i s = .next t ∧
      t = { s with vram := t.vram, tpc := t.tpc, dirty := t.dirty, dstate := .extraData, xkind := polyKind i,
                   pline := { s.pline with plast := vertex s.ofs c.v1, pcol := c.c1, pphase := 0#1 },
                   diagSemiPolyline := s.diagSemiPolyline || c.semi,
                   trace := s.trace ++ [.acquire] ++
                     (if c.semi && !s.diagSemiPolyline then [.diag .semiPolyline] else []) ++ [.release] } ∧
      t.vram.native = (plotAll (s.mode false false false noClut) s.vram
        (if lineAccepted s.clip (vertex s.ofs c.v0) (vertex s.ofs c.v1) then
          linePixels (vertex s.ofs c.v0) (vertex s.ofs c.v1) c.c0 c.c1 else [])).native ∧
      (∀ a : Nat, (∀ p ∈ lineCells (vertex s.ofs c.v0) (vertex s.ofs c.v1), a / 2 ≠ cellIndex p.1 p.2) →
        vramByte t.vram.native a = vramByte s.vram.native a) ∧
      t.vram.fmt = s.vram.fmt ∧ t.vram.tags = s.vram.tags ∧
      t.dirty = if lineAccepted s.clip (vertex s.ofs c.v0) (vertex s.ofs c.v1) then
        some (bbox s.dirty (lineBox (vertex s.ofs c.v0) (vertex s.ofs c.v1))) else s.dirty

/-- The terminator test, and what a data word of either polyline does: end it, take a colour, or draw a segment from the
last vertex to the new one, which becomes the last whether or not the segment was accepted (R121, R290 to R292). -/
def Obligations.PolylineDataWords : Prop :=
  (∀ w : Word, isTerminator w = true ↔ (field w 28 4 = 5#4 ∧ field w 12 4 = 5#4)) ∧
  ∀ (w : Word) (s : State), s.dstate = .extraData → s.xkind ≠ .imageIn → s.lock = .free →
    ((s.xkind = .polyFlat ∨ s.pline.pphase = 0#1) → isTerminator w = true →
      gp0Write w s = .next { s with dstate := .idle, trace := s.trace ++ [.acquire, .release] }) ∧
    (s.xkind = .polyGouraud → s.pline.pphase = 0#1 → isTerminator w = false →
      gp0Write w s = .next { s with pline := { s.pline with pnext := ⟨field w 0 8, field w 8 8, field w 16 8⟩,
                                                            pphase := 1#1 },
                                    trace := s.trace ++ [.acquire, .release] }) ∧
    ((s.xkind = .polyFlat ∧ isTerminator w = false) ∨ (s.xkind = .polyGouraud ∧ s.pline.pphase = 1#1) →
      ∃ t p c, p = ((field w 0 11).toInt + s.ofs.x.toInt, (field w 16 11).toInt + s.ofs.y.toInt) ∧
        c = (if s.xkind = .polyFlat then s.pline.pcol else s.pline.pnext) ∧
        gp0Write w s = .next t ∧
        t = { s with vram := t.vram, tpc := t.tpc, dirty := t.dirty,
                     pline := { s.pline with plast := p, pcol := c,
                                             pphase := if s.xkind = .polyFlat then s.pline.pphase else 0#1 },
                     trace := s.trace ++ [.acquire, .release] } ∧
        t.vram.native = (plotAll (s.mode false false false noClut) s.vram
          (if lineAccepted s.clip s.pline.plast p then linePixels s.pline.plast p s.pline.pcol c else [])).native ∧
        t.dirty = if lineAccepted s.clip s.pline.plast p then some (bbox s.dirty (lineBox s.pline.plast p)) else s.dirty)

/-- A segment's walk: `count + 1` cells, the first `p0`, the last `p1`, all of them in the box of the endpoints, one step
of the major axis apart; its `i`-th cell in closed form, the accumulator starting at `count >> 1`; its pixels are those
cells in order, of the flat colour or of the interpolated and clamped one (R283 to R285). -/
def Obligations.LineWalkReachesItsEnd : Prop :=
  (∀ (p0 p1 : Int × Int) (i count m : Nat) (sx sy adv : Int),
    count = max (p1.1 - p0.1).natAbs (p1.2 - p0.2).natAbs → m = min (p1.1 - p0.1).natAbs (p1.2 - p0.2).natAbs →
    sx = (if p1.1 - p0.1 > 0 then 1 else -1) → sy = (if p1.2 - p0.2 > 0 then 1 else -1) →
    adv = ((i * m + count - 1 - count / 2 : Nat) : Int) / count → i ≤ count →
    (lineCells p0 p1)[i]? = some (if (p1.1 - p0.1).natAbs ≥ (p1.2 - p0.2).natAbs then (p0.1 + sx * i, p0.2 + sy * adv)
      else (p0.1 + sx * adv, p0.2 + sy * i))) ∧
  (∀ (p0 p1 : Int × Int) (c0 c1 : Rgb),
    (linePixels p0 p1 c0 c1).map (fun px => (px.x, px.y)) = lineCells p0 p1 ∧
    ∀ (i count : Nat) (px : Pixel), count = max (p1.1 - p0.1).natAbs (p1.2 - p0.2).natAbs →
      (linePixels p0 p1 c0 c1)[i]? = some px →
      (c0 = c1 → px.r = c0.r.toNat ∧ px.g = c0.g.toNat ∧ px.b = c0.b.toNat) ∧
      ∀ (k : Nat) (a b : BitVec 8), (k, a, b) ∈ [(px.r, c0.r, c1.r), (px.g, c0.g, c1.g), (px.b, c0.b, c1.b)] →
        (k : Int) = min (max (((a.toNat : Int) * 65536 +
          (if count = 0 then 0 else Int.tdiv (((b.toNat : Int) - a.toNat) * 65536) count) * i) / 65536) 0) 255) ∧
  ∀ p0 p1 : Int × Int,
    (lineCells p0 p1).length = max (p1.1 - p0.1).natAbs (p1.2 - p0.2).natAbs + 1 ∧
    (lineCells p0 p1).head? = some p0 ∧ (lineCells p0 p1).getLast? = some p1 ∧
    (∀ p ∈ lineCells p0 p1, (lineBox p0 p1).has p.1 p.2 = true) ∧
    ∀ k, (h : k + 1 < (lineCells p0 p1).length) →
      max ((lineCells p0 p1)[k + 1].1 - (lineCells p0 p1)[k].1).natAbs
        ((lineCells p0 p1)[k + 1].2 - (lineCells p0 p1)[k].2).natAbs = 1

/-- A triangle of no height or no area covers no cell, whatever the order its vertices come in (R230). -/
def Obligations.DegenerateTriangleDrawsNothing : Prop :=
  ∀ (clip : Rect) (sh : Shading) (p q r : Vert),
    ((p.y = q.y ∧ q.y = r.y) ∨ (q.x - p.x) * (r.y - p.y) = (r.x - p.x) * (q.y - p.y)) →
      trianglePixels clip sh p q r = []

/-- Drawing with a clip rectangle gives exactly the pixels inside it of a draw with a larger one, with the same colours
and texels, in the same order: polygons and rectangles (R226, R264). -/
def Obligations.ClippingOnlyFilters : Prop :=
  ∀ (clip big : Rect) (ofs : DrawOffset), big.x0 ≤ clip.x0 → big.y0 ≤ clip.y0 → clip.x1 ≤ big.x1 → clip.y1 ≤ big.y1 →
    (∀ c : PolyCmd, c.pixels ofs clip = (c.pixels ofs big).filter fun p => clip.has p.x p.y) ∧
    ∀ c : RectCmd, c.pixels ofs clip = (c.pixels ofs big).filter fun p => clip.has p.x p.y

/-- A triangle, its vertices sorted by row, covers each cell at most once, rows top to bottom and within a row left to
right; where it is not rejected it covers exactly the cells inside the clip rectangle from the ceiling of its left edge
to before the ceiling of its right edge on the rows from its top vertex to before its bottom one, each with the flat
colour or the interpolated one and the interpolated texel coordinate (R222, R225, R227, R229 to R237). -/
def Obligations.TriangleCoversItsCells : Prop :=
  ∀ (clip : Rect) (sh : Shading) (p q r : Vert) (t : Tri), t = Tri.sort p q r →
    ([t.a, t.b, t.c].Perm [p, q, r] ∧ t.a.y ≤ t.b.y ∧ t.b.y ≤ t.c.y) ∧
    (trianglePixels clip sh p q r).Pairwise (fun a b => a.y < b.y ∨ (a.y = b.y ∧ a.x < b.x)) ∧
    (t.a.y = t.c.y ∨ (t.b.x - t.a.x) * (t.c.y - t.a.y) = (t.c.x - t.a.x) * (t.b.y - t.a.y) ∨
        edgeX ⟨t.a, t.c⟩ t.b.y = t.b.x * 65536 →
      trianglePixels clip sh p q r = []) ∧
    (¬ (t.a.y = t.c.y ∨ (t.b.x - t.a.x) * (t.c.y - t.a.y) = (t.c.x - t.a.x) * (t.b.y - t.a.y) ∨
        edgeX ⟨t.a, t.c⟩ t.b.y = t.b.x * 65536) →
      (∀ x y : Int, (∃ px ∈ trianglePixels clip sh p q r, px.x = x ∧ px.y = y) ↔
        (t.a.y ≤ y ∧ y < t.c.y) ∧
        ((min (edgeX ⟨t.a, t.c⟩ y) (edgeX (shortEdge t y) y) + 65535) / 65536 ≤ x ∧
          x < (max (edgeX ⟨t.a, t.c⟩ y) (edgeX (shortEdge t y) y) + 65535) / 65536) ∧ clip.has x y = true) ∧
      ∀ px ∈ trianglePixels clip sh p q r, shadedBy sh (fun f => triAttr t f px.x px.y) px)

/-- The pixels of a polygon command are those of the triangle or quad of its vertices, the drawing offset added, under
its own shading; every one is inside the clip rectangle and inside the bounding box of the vertices, which is what the
command reports (R115, R221, R222, R226, R242). -/
def Obligations.PolygonPixelsInsideReportedBox : Prop :=
  (∀ (ofs : DrawOffset) (w : RawVert), w.vert ofs = ⟨w.p.x.toInt + ofs.x.toInt, w.p.y.toInt + ofs.y.toInt,
    ⟨w.t.u.toNat, w.t.v.toNat, w.c.r.toNat, w.c.g.toNat, w.c.b.toNat⟩⟩) ∧
  ∀ (c : PolyCmd) (ofs : DrawOffset) (clip : Rect),
    (c.w3 = none → c.pixels ofs clip =
      trianglePixels clip ⟨c.gouraud, c.w0.c⟩ (c.w0.vert ofs) (c.w1.vert ofs) (c.w2.vert ofs)) ∧
    (∀ w3, c.w3 = some w3 → c.pixels ofs clip =
      quadPixels clip ⟨c.gouraud, c.w0.c⟩ c.tex.isSome (c.w0.vert ofs) (c.w1.vert ofs) (c.w2.vert ofs) (w3.vert ofs)) ∧
    ∀ p ∈ c.pixels ofs clip, clip.has p.x p.y = true ∧ (c.box ofs).has p.x p.y = true

/-- A quad whose vertices are an axis-aligned rectangle in order, with linear attributes, covers each of that rectangle's
cells but the right column and the bottom row once, in order, with the attributes of R240; any other quad is its two
triangles, one after the other (R227, R239 to R241). -/
def Obligations.QuadsCoverTheirCells : Prop :=
  ∀ (clip : Rect) (sh : Shading) (textured : Bool) (p0 p1 p2 p3 : Vert),
    (quadShape p0 p1 p2 p3 = true → quadLinear textured sh.gouraud p0.a p1.a p2.a p3.a = true →
      ((quadPixels clip sh textured p0 p1 p2 p3).map fun p => (p.x, p.y)).Nodup ∧
      (quadPixels clip sh textured p0 p1 p2 p3).Pairwise (fun a b => a.y < b.y ∨ (a.y = b.y ∧ a.x < b.x)) ∧
      (∀ x y : Int, (∃ p ∈ quadPixels clip sh textured p0 p1 p2 p3, p.x = x ∧ p.y = y) ↔
        ((p0.x ≤ x ∧ x < p1.x) ∧ (p0.y ≤ y ∧ y < p2.y) ∧ clip.has x y = true)) ∧
      ∀ px ∈ quadPixels clip sh textured p0 p1 p2 p3, shadedBy sh (fun f => rectAttr p0 p1 p2 f px.x px.y) px) ∧
    (quadShape p0 p1 p2 p3 = false ∨ quadLinear textured sh.gouraud p0.a p1.a p2.a p3.a = false →
      quadPixels clip sh textured p0 p1 p2 p3 = trianglePixels clip sh p0 p1 p2 ++ trianglePixels clip sh p1 p2 p3)

/-! ## Fill, copy, transfers -/

/-- FILL reads its operands from its words, writes its colour, mask bit 0, to every cell of its block modulo VRAM's size,
whatever the mask mode, the clip rectangle and the offset, reports its target rectangle, and changes nothing else
(R190, R191). -/
def Obligations.FillWritesItsBlock : Prop :=
  (∀ w0 w1 w2 : Word, opcodeOf w0 = 0x02#8 → decode .gp0 [w0, w1, w2] =
    .ok (.fill ⟨⟨field w0 0 8, field w0 8 8, field w0 16 8⟩, (field w1 0 10 &&& 0x3F0#10).toNat, field w1 16 9,
      ((field w2 0 10).toNat + 15) &&& 0x7F0, field w2 16 9⟩, [])) ∧
  ∀ (o : Fill) (s : State), o.wf = true → s.lock = .free →
    ∃ t, exec (.fill o) s = .next t ∧
      t = { s with vram := t.vram, tpc := t.tpc, dirty := t.dirty, trace := s.trace ++ [.acquire, .release] } ∧
      (∀ x y : Int, inBlock o.x o.y.toNat o.w o.h.toNat (cellIndex x y) → t.vram.read x y =
        0#1 ++ o.c0.b.extractLsb' 3 5 ++ o.c0.g.extractLsb' 3 5 ++ o.c0.r.extractLsb' 3 5) ∧
      (∀ a : Nat, ¬ inBlock o.x o.y.toNat o.w o.h.toNat (a / 2) →
        vramByte t.vram.native a = vramByte s.vram.native a) ∧
      t.vram.fmt = s.vram.fmt ∧ t.vram.tags = s.vram.tags ∧
      (o.w = 0 ∨ o.h = 0#9 → t.dirty = s.dirty ∧ t.tpc = s.tpc) ∧
      (o.w ≠ 0 → o.h ≠ 0#9 → t.dirty = some (bbox s.dirty (targetRect o.x o.y.toNat o.w o.h.toNat)) ∧
        t.tpc = s.tpc.filter fun e => !footprintMeets e (targetRect o.x o.y.toNat o.w o.h.toNat))

/-- A copy reads its operands from its words and gives every destination cell the source cell's value from before the
copy, mask bit and set-mask included, but for cells the mask check protects; nothing else changes but the report (R192,
R193). -/
def Obligations.CopyReadsBeforeItWrites : Prop :=
  (∀ w0 w1 w2 w3 : Word, 0x80 ≤ (opcodeOf w0).toNat → (opcodeOf w0).toNat ≤ 0x9F →
    ∃ i, decode .gp0 [w0, w1, w2, w3] = .ok (i, []) ∧ i.operands = .copy ⟨field w1 0 10, field w1 16 9, field w2 0 10,
      field w2 16 9, if field w3 0 10 = 0#10 then 1024 else (field w3 0 10).toNat,
      if field w3 16 9 = 0#9 then 512 else (field w3 16 9).toNat⟩) ∧
  ∀ (i : Instr) (o : Copy) (s : State), i.operands = .copy o → i.wf = true → s.lock = .free →
    ∃ t, exec i s = .next t ∧
      t = { s with vram := t.vram, tpc := t.tpc, dirty := t.dirty, trace := s.trace ++ [.acquire, .release] } ∧
      (∀ j k : Nat, j < o.w → k < o.h →
        t.vram.read (o.dx.toNat + j : Nat) (o.dy.toNat + k : Nat) =
          if s.msk.chk && maskBit (s.vram.read (o.dx.toNat + j : Nat) (o.dy.toNat + k : Nat)) then
            s.vram.read (o.dx.toNat + j : Nat) (o.dy.toNat + k : Nat)
          else orMask (s.vram.read (o.sx.toNat + j : Nat) (o.sy.toNat + k : Nat)) s.msk.set) ∧
      (∀ a : Nat, ¬ inBlock o.dx.toNat o.dy.toNat o.w o.h (a / 2) →
        vramByte t.vram.native a = vramByte s.vram.native a) ∧
      t.vram.fmt = s.vram.fmt ∧ t.vram.tags = s.vram.tags ∧
      t.dirty = some (bbox s.dirty (targetRect o.dx.toNat o.dy.toNat o.w o.h)) ∧
      t.tpc = s.tpc.filter fun e => !footprintMeets e (targetRect o.dx.toNat o.dy.toNat o.w o.h)

/-- IMGIN opens its data phase with the declared count of words, switching VRAM's format where R196 asks for it, and
writes no cell's native view (R194, R196, R334; its bracket is the model's reading of R90, log entry 24). -/
def Obligations.ImageInOpensItsDataPhase : Prop :=
  ∀ (i : Instr) (o : Xfer) (s : State), i.operands = .xfer o → opClass i.opcode = 5 → s.lock = .free →
    ∃ t want, exec i s = .next t ∧
      want = (if s.pend.c24 = true ∧ o.w % 6 = 0 then VFmt.f24 else VFmt.f15) ∧
      t = { s with vram := t.vram, tpc := t.tpc, img := ⟨o.x, o.y, o.w, o.h, 0, (o.w * o.h + 1) / 2⟩,
                   xkind := .imageIn, dstate := .extraData, trace := s.trace ++ [.acquire, .release] } ∧
      t.vram.native = s.vram.native ∧ t.vram.fmt = want ∧
      (want = s.vram.fmt → t.vram = s.vram ∧ t.tpc = s.tpc) ∧
      (want ≠ s.vram.fmt → t.vram.tags = [] ∧ t.vram.flags = [] ∧ t.tpc = [])

/-- The declared number of data words completes an image-in: every pixel still to come is stored row by row under the
mask mode, its cell tagged in `F24` by its place in the row whether or not the mask let it through, every other cell
keeps its value and its tag, the target is reported once, and GP0 is idle; nothing else changes but the sub-state and
the trace. Before that the phase stays open and reports nothing (R76, R82, R143, R195, R197). -/
def Obligations.ImageInStoresEveryPixel : Prop :=
  ∀ (s : State) (ws : List Word), s.Inv → s.dstate = .extraData → s.xkind = .imageIn → s.lock = .free →
    (ws.length < s.img.xrem →
      ∃ t, feed ws s = .next t ∧ t.dstate = .extraData ∧ t.xkind = .imageIn ∧
        t.img.xrem = s.img.xrem - ws.length ∧ t.dirty = s.dirty) ∧
    (ws.length = s.img.xrem →
      ∃ t, feed ws s = .next t ∧
        t = { s with vram := t.vram, tpc := t.tpc, dirty := t.dirty, dstate := .idle, img := t.img, trace := t.trace } ∧
        t.dirty = some (bbox s.dirty s.img.target) ∧
        (∀ k : Nat, s.img.xpos ≤ k → k < s.img.xw * s.img.xh →
          t.vram.read (s.img.xx.toNat + k % s.img.xw : Nat) (s.img.xy.toNat + k / s.img.xw : Nat) =
            if s.msk.chk && maskBit (s.vram.read (s.img.xx.toNat + k % s.img.xw : Nat)
                (s.img.xy.toNat + k / s.img.xw : Nat)) then
              s.vram.read (s.img.xx.toNat + k % s.img.xw : Nat) (s.img.xy.toNat + k / s.img.xw : Nat)
            else orMask (halfOf ws (k - s.img.xpos)) s.msk.set) ∧
        (∀ a : Nat, (∀ k : Nat, s.img.xpos ≤ k → k < s.img.xw * s.img.xh → a / 2 ≠
            cellIndex (s.img.xx.toNat + k % s.img.xw : Nat) (s.img.xy.toNat + k / s.img.xw : Nat)) →
          vramByte t.vram.native a = vramByte s.vram.native a) ∧
        t.vram.fmt = s.vram.fmt ∧
        (s.vram.fmt = .f24 → ∀ k : Nat, s.img.xpos ≤ k → k < s.img.xw * s.img.xh →
          t.vram.tag (s.img.xx.toNat + k % s.img.xw : Nat) (s.img.xy.toNat + k / s.img.xw : Nat) =
            BitVec.ofNat 2 (1 + k % s.img.xw % 3)) ∧
        ∀ x y : Int, (s.vram.fmt = .f15 ∨ ∀ k : Nat, s.img.xpos ≤ k → k < s.img.xw * s.img.xh → cellIndex x y ≠
            cellIndex (s.img.xx.toNat + k % s.img.xw : Nat) (s.img.xy.toNat + k / s.img.xw : Nat)) →
          t.vram.tag x y = s.vram.tag x y)

/-- IMGOUT writes the read-out registers and nothing else, in any state of the lock (R199). -/
def Obligations.ImageOutOpensTheReadOut : Prop :=
  ∀ (i : Instr) (o : Xfer) (s : State), i.operands = .xfer o → opClass i.opcode = 6 →
    exec i s = .next { s with rd := ⟨true, o.x, o.y, o.w, o.h, 0, s.rd.rlatch⟩ }

/-- After an IMGOUT, `(RW * RH + 1) / 2` reads return the pixels of the rectangle, two to a word, row by row, the last
upper half 0 when their count is odd; then the read-out is over and each further read returns the last word again;
the reads change the read-out registers only (R82, R199, R362). -/
def Obligations.ReadOutReturnsItsPixels : Prop :=
  ∀ (s : State) (n : Nat), 1 ≤ s.rd.rw → 1 ≤ s.rd.rh → s.rd.ractive = true → s.rd.rpos = 0 →
    (drain n s).2 = { s with rd := (drain n s).2.rd } ∧
    ((drain n s).2.rd.ractive = true ↔ n < (s.rd.rw * s.rd.rh + 1) / 2) ∧
    (drain n s).1.length = n ∧
    (∀ k : Nat, k < n → k < (s.rd.rw * s.rd.rh + 1) / 2 →
      (drain n s).1[k]? = some ((if 2 * k + 1 < s.rd.rw * s.rd.rh then
          s.vram.read (s.rd.rx.toNat + (2 * k + 1) % s.rd.rw : Nat) (s.rd.ry.toNat + (2 * k + 1) / s.rd.rw : Nat)
        else 0#16) ++
        s.vram.read (s.rd.rx.toNat + 2 * k % s.rd.rw : Nat) (s.rd.ry.toNat + 2 * k / s.rd.rw : Nat))) ∧
    ∀ k : Nat, k < n → (s.rd.rw * s.rd.rh + 1) / 2 ≤ k →
      (drain n s).1[k]? = (drain n s).1[(s.rd.rw * s.rd.rh + 1) / 2 - 1]?

/-- What a VRAM-writing operation's report does: the rectangle joins `DIRTY`, and exactly the cached pages with a cell
in the rectangle are dropped (R330, R333, R368). -/
def Obligations.ReportDropsPagesInItsRectangle : Prop :=
  ∀ (r : Rect) (s : State), 0 ≤ r.x0 → r.x0 ≤ r.x1 → r.x1 ≤ 1023 → 0 ≤ r.y0 → r.y0 ≤ r.y1 → r.y1 ≤ 511 →
    (report r s).dirty = some (match s.dirty with
      | none => r
      | some a => ⟨min a.x0 r.x0, min a.y0 r.y0, max a.x1 r.x1, max a.y1 r.y1⟩) ∧
    ∀ e ∈ s.tpc, e ∈ (report r s).tpc ↔ ¬ ∃ x y : Int, r.has x y = true ∧ inFootprint e x y

/-! ## The caches -/

/-- Every step keeps the page cache coherent: a cached page decodes as VRAM does now, but for a page with a cell in the
target of an image-in whose last data word has not come, which the report at its end will drop (R94, R195, R332). -/
def Obligations.TexturePagesStayCoherent : Prop :=
  ∀ s t : State, s.Inv → s.pagesCoherent → step s = .next t → t.pagesCoherent

/-- Every step keeps the solid flags true: a stored flag equals `Solid` on VRAM as it is now, but for a palette with an
entry in the target of an image-in whose last data word has not come, which the report at its end will drop (R195,
R338). -/
def Obligations.SolidFlagsStayTrue : Prop :=
  ∀ s t : State, s.Inv → s.solidCoherent → step s = .next t → t.solidCoherent

/-! ## GP1 -/

/-- G1.RESET writes exactly what its pseudocode writes; an image-in under way is reported first (R351). That it keeps
`CBUF`, `CTARGET`, `XKIND`, the image and polyline sub-states and `RX`, `RY`, `RW`, `RH`, `RPOS`, which R27 to R30 leave
unspecified after it, is the model's choice (DESIGN CHOICE, log entry 2). -/
def Obligations.SoftResetRewritesRegisters : Prop :=
  ∀ s : State, ∃ t, exec .g1Reset s = .next t ∧
    t = { s with dm := ⟨0, 0, 0, 0, false, false⟩, tw := ⟨0, 0, 0, 0⟩, clip := ⟨0, 0, 0, 0⟩, ofs := ⟨0, 0⟩,
                 msk := ⟨false, false⟩, dstate := .idle, clen := 0,
                 rd := { s.rd with ractive := false, rlatch := 0 },
                 pend := ⟨0, 0, 0x200, 0xC00, 0x010, 0x100, 0, false, false, false, false, false, false, true⟩,
                 dmadir := 0, tpc := [], vram := t.vram, dirty := t.dirty } ∧
    (s.midImage → t.vram = (report s.img.target s).vram ∧ t.dirty = (report s.img.target s).dirty) ∧
    (¬ s.midImage → t.vram = s.vram ∧ t.dirty = s.dirty) ∧ t.vram.native = s.vram.native ∧
    t.gpuStat = 0x1C802000#32 ||| (bit s.field ++ 0#31)

/-- G1.ABORT ends what GP0 is receiving and nothing else; an image-in under way is reported (R352). -/
def Obligations.AbortEndsTheDataPhase : Prop :=
  ∀ s : State,
    (s.midImage → exec .g1Abort s = .next { report s.img.target s with dstate := .idle, clen := 0 }) ∧
    (¬ s.midImage → exec .g1Abort s = .next { s with dstate := .idle, clen := 0 })

/-- GP1 03, 04, 06, 07 and 08 take their fields from their words, write exactly those of `PEND` or `DMADIR` and are no
decision points (R354, R355, R357 to R359). -/
def Obligations.DisplayCommandsWriteTheirFields : Prop :=
  (∀ w : Word,
    (gp1OpcodeOf w = 0x03#6 → decodeGp1 w = .g1Dispen ⟨flagBit w 0⟩) ∧
    (gp1OpcodeOf w = 0x04#6 → decodeGp1 w = .g1Dmadir ⟨field w 0 2⟩) ∧
    (gp1OpcodeOf w = 0x06#6 → decodeGp1 w = .g1Hrange ⟨field w 0 12, field w 12 12⟩) ∧
    (gp1OpcodeOf w = 0x07#6 → decodeGp1 w = .g1Vrange ⟨field w 0 10, field w 10 10⟩) ∧
    (gp1OpcodeOf w = 0x08#6 → ∃ o, decodeGp1 w = .g1Mode o ∧ o.hres1 = field w 0 2 ∧
      [o.vres, o.pal, o.c24, o.ilace, o.hres2, o.rev] = [2, 3, 4, 5, 6, 7].map (flagBit w))) ∧
  ∀ s : State,
    (∀ o, exec (.g1Dispen o) s = .next { s with pend := { s.pend with dispoff := o.off } }) ∧
    (∀ o, exec (.g1Dmadir o) s = .next { s with dmadir := o.dir }) ∧
    (∀ o, exec (.g1Hrange o) s = .next { s with pend := { s.pend with hx1 := o.x1, hx2 := o.x2 } }) ∧
    (∀ o, exec (.g1Vrange o) s = .next { s with pend := { s.pend with vy1 := o.y1, vy2 := o.y2 } }) ∧
    (∀ o, exec (.g1Mode o) s = .next { s with pend := { s.pend with
      hres1 := o.hres1, vres := o.vres, pal := o.pal, c24 := o.c24, ilace := o.ilace, hres2 := o.hres2, rev := o.rev } })

/-- G1.INFO latches the word of its index, bits 2:0 of its word, and leaves the latch alone at indices 0, 1 and 6; the
next read outside a read-out returns the latch (R361). -/
def Obligations.InfoLatchesARegister : Prop :=
  (∀ w : Word, 0x10 ≤ (gp1OpcodeOf w).toNat → (gp1OpcodeOf w).toNat ≤ 0x1F →
    (decodeGp1 w).operands = .info ⟨field w 0 3⟩) ∧
  (∀ s : State, s.rd.ractive = false → gpuRead s = (s.rd.rlatch, s)) ∧
  ∀ (i : Instr) (o : Info) (s : State), i.operands = .info o →
    ∃ t, exec i s = .next t ∧ t = { s with rd := { s.rd with rlatch := t.rd.rlatch } } ∧
      (o.index = 0#3 ∨ o.index = 1#3 ∨ o.index = 6#3 → t.rd.rlatch = s.rd.rlatch) ∧
      (o.index = 2#3 → t.rd.rlatch = 0#12 ++ s.tw.oy ++ s.tw.ox ++ s.tw.my ++ s.tw.mx) ∧
      (o.index = 3#3 → t.rd.rlatch = 0#13 ++ s.clip.y1 ++ s.clip.x1) ∧
      (o.index = 4#3 → t.rd.rlatch = 0#13 ++ s.clip.y2 ++ s.clip.x2) ∧
      (o.index = 5#3 → t.rd.rlatch = 0#10 ++ s.ofs.y ++ s.ofs.x) ∧
      (o.index = 7#3 → t.rd.rlatch = 2#32)

/-- GPUSTAT bit by bit, its value after power-on, and that reading it changes nothing (R360). -/
def Obligations.StatusWordBits : Prop :=
  State.reset.gpuStat = 0x1C802000#32 ∧
  (∀ (rest : List Call) (s : State), s.calls = .gpuStat :: rest →
    step s = .next { s with calls := rest, returns := s.returns ++ [s.gpuStat] }) ∧
  ∀ s : State,
    s.gpuStat.extractLsb' 0 4 = s.dm.tpx ∧ s.gpuStat.extractLsb' 4 1 = s.dm.tpy ∧
    s.gpuStat.extractLsb' 5 2 = s.dm.abr ∧ s.gpuStat.extractLsb' 7 2 = s.dm.tdepth ∧
    s.gpuStat.getLsbD 9 = s.dm.dtd ∧ s.gpuStat.getLsbD 10 = s.dm.dfe ∧
    s.gpuStat.getLsbD 11 = s.msk.set ∧ s.gpuStat.getLsbD 12 = s.msk.chk ∧
    s.gpuStat.getLsbD 13 = (if s.pend.ilace then s.field else true) ∧
    s.gpuStat.getLsbD 14 = s.pend.rev ∧ s.gpuStat.getLsbD 15 = false ∧
    s.gpuStat.getLsbD 16 = s.pend.hres2 ∧ s.gpuStat.extractLsb' 17 2 = s.pend.hres1 ∧
    s.gpuStat.getLsbD 19 = s.pend.vres ∧ s.gpuStat.getLsbD 20 = s.pend.pal ∧
    s.gpuStat.getLsbD 21 = s.pend.c24 ∧ s.gpuStat.getLsbD 22 = s.pend.ilace ∧
    s.gpuStat.getLsbD 23 = s.pend.dispoff ∧ s.gpuStat.getLsbD 24 = false ∧
    s.gpuStat.getLsbD 25 = decide (s.dmadir ≠ 0#2) ∧ s.gpuStat.extractLsb' 26 3 = 7#3 ∧
    s.gpuStat.extractLsb' 29 2 = s.dmadir ∧ s.gpuStat.getLsbD 31 = s.field

/-! ## Reset and the display's decisions -/

/-- The registers after power-on (R430). -/
def Obligations.PowerOnRegisterValues : Prop :=
  ∀ (native : Memory) (now : Nat) (s : State), s = State.powerOn native now →
    (s.dm = ⟨0, 0, 0, 0, false, false⟩ ∧ s.tw = ⟨0, 0, 0, 0⟩ ∧ s.clip = ⟨0, 0, 0, 0⟩ ∧ s.ofs = ⟨0, 0⟩ ∧
      s.msk = ⟨false, false⟩) ∧
    (∀ i, s.tw.twu i = i ∧ s.tw.twv i = i) ∧ s.tw.enabled = false ∧
    (s.dstate = .idle ∧ s.clen = 0 ∧ s.rd.ractive = false ∧ s.rd.rlatch = 0) ∧
    (s.pend = ⟨0, 0, 0x200, 0xC00, 0x010, 0x100, 0, false, false, false, false, false, false, true⟩ ∧
      s.cur = s.pend ∧ s.dmadir = 0 ∧ s.field = false) ∧
    (s.vram.native = native ∧ s.vram.fmt = .f15 ∧
      ∀ x y, s.vram.tag x y = 0 ∧ s.vram.flagsAt x y = ⟨false, false, false, false⟩) ∧
    (∀ p d, tpcValid s.tpc p d = false) ∧
    (s.dirty = none ∧ s.pendingDirty = false ∧ s.tAny = now ∧ s.tDirty = now) ∧
    (s.diagSemiPolyline = false ∧ s.diagMod16 = false ∧ s.lock = .free ∧ s.trace = [.initDisplay]) ∧
    s.gpuStat = 0x1C802000#32 ∧ gpuRead s = (0#32, s) ∧ s.cur.visible = ⟨0, 0, 255, 239⟩

/-- A decision, made at a tick and at GP1 05: dirt inside the visible rectangle is remembered, `DIRTY` emptied, and a
refresh promotes `PEND` exactly when a format field differs, remembered dirt is old enough, or the liveness interval
has passed; the tick toggles `FIELD` first (R356, R370 to R373). -/
def Obligations.DecisionsFollowTheRule : Prop :=
  ∀ (s : State) (d : Bool), d = (s.pendingDirty || (match s.dirty with
      | none => false
      | some r => r.meets s.pend.visible)) →
    (({ s.cur with orgx := s.pend.orgx, orgy := s.pend.orgy } ≠ s.pend ∨
        (d = true ∧ Config.tDirtyNs ≤ s.now - s.tDirty) ∨ Config.tLiveNs ≤ s.now - s.tAny) →
      decideRefresh s = { s with dirty := none, pendingDirty := false, cur := s.pend, tAny := s.now, tDirty := s.now,
                                 trace := s.trace ++ [.refresh s.pend] }) ∧
    (¬ ({ s.cur with orgx := s.pend.orgx, orgy := s.pend.orgy } ≠ s.pend ∨
        (d = true ∧ Config.tDirtyNs ≤ s.now - s.tDirty) ∨ Config.tLiveNs ≤ s.now - s.tAny) →
      decideRefresh s = { s with dirty := none, pendingDirty := d }) ∧
    vsyncTick s = decideRefresh { s with field := !s.field } ∧
    ∀ o, exec (.g1Origin o) s = .next (decideRefresh { s with pend := { s.pend with orgx := o.x, orgy := o.y } })

/-- Liveness: a tick at or after `T_LIVE_NS` since the last refresh emits a refresh, whatever else is the case, and the
two intervals are ordered (R374, R375). -/
def Obligations.TicksKeepTheDisplayAlive : Prop :=
  (0 < Config.tDirtyNs ∧ Config.tDirtyNs < Config.tLiveNs) ∧
  ∀ (s : State) (rest : List Call), s.calls = .vsyncTick :: rest → Config.tLiveNs ≤ s.now - s.tAny →
    ∃ t, step s = .next t ∧ t.trace = s.trace ++ [.refresh s.pend] ∧ t.cur = s.pend ∧ t.tAny = s.now ∧ t.dirty = none

/-! ## DMA -/

/-- A block transfer into the block is its words given to GP0 one after another, inside one bracket, and then the
completion signal. A block transfer out of it stores what that many reads of the port return, oldest first, at rising
word addresses modulo 2^24, low byte first, a later word over an earlier one at the same address; every other byte of
main memory keeps its value (R81, R205 to R207, R213, R362). -/
def Obligations.BlockTransfersMoveTheirWords : Prop :=
  (∀ (base ctrl : Word) (bc bs : BitVec 16) (n : Nat) (s : State), s.lock = .free →
    ctrlList ctrl = false → flagBit ctrl 0 = false → n = bc.toNat * bs.toNat →
    (∀ k, k < n → (memRead s.mainMem (wordAddr (wordAddr base.toNat + 4 * k))).isSome = true) →
    ∃ t, dmaTransfer base bc bs ctrl s = .next t ∧
      t = { s with rd := (drain n s).2.rd, mainMem := t.mainMem, trace := s.trace ++ [.acquire, .release, .dmaDone] } ∧
      (∀ k j, k < n → n ≤ k + 4194304 → j < 4 →
        Sparse.get? (wordAddr (wordAddr base.toNat + 4 * k) + j) t.mainMem =
          ((drain n s).1[k]?).map fun w => w.extractLsb' (8 * j) 8) ∧
      ∀ a, (∀ k, k < n → wordAddr (wordAddr base.toNat + 4 * k) ≠ a / 4 * 4) →
        Sparse.get? a t.mainMem = Sparse.get? a s.mainMem) ∧
  ∀ (base ctrl : Word) (bc bs : BitVec 16) (ws : List Word) (s : State), s.lock = .free →
    ctrlList ctrl = false → flagBit ctrl 0 = true → ws.length = bc.toNat * bs.toNat →
    (∀ k, k < ws.length → memRead s.mainMem (wordAddr (wordAddr base.toNat + 4 * k)) = ws[k]?) →
    ∃ u, feed ws { s with lock := .block, trace := s.trace ++ [.acquire] } = .next u ∧
      dmaTransfer base bc bs ctrl s = .next { u with lock := .free, trace := u.trace ++ [.release, .dmaDone] }

/-- A transfer whose first access is absent moves nothing and ends normally; on the way out the read whose store failed
has advanced the read-out (R205, R207, R212, R213). -/
def Obligations.AbsentAddressSkipsTheTransfer : Prop :=
  ∀ (base ctrl : Word) (bc bs : BitVec 16) (s : State), s.lock = .free →
    memRead s.mainMem (wordAddr (wordAddr base.toNat)) = none →
    ((ctrlList ctrl = true ∨ flagBit ctrl 0 = true ∨ bc.toNat * bs.toNat = 0) →
      dmaTransfer base bc bs ctrl s = .next { s with trace := s.trace ++ [.acquire, .release, .dmaDone] }) ∧
    (ctrlList ctrl = false → flagBit ctrl 0 = false → bc.toNat * bs.toNat ≠ 0 →
      dmaTransfer base bc bs ctrl s = .next { s with rd := (gpuRead s).2.rd,
                                                     trace := s.trace ++ [.acquire, .release, .dmaDone] })

/-- A node of a list is read header first, its payload given to GP0 in order, and only then is its marker tested and its
link followed with the low two bits cleared (R93, R210). -/
def Obligations.ListNodeIsForwardedThenFollowed : Prop :=
  ∀ (fuel ptr : Nat) (hdr : Word) (ws : List Word) (s : State),
    memRead s.mainMem ptr = some hdr → (field hdr 24 8).toNat = ws.length →
    (∀ k, k < ws.length → memRead s.mainMem (wordAddr (ptr + 4 * (k + 1))) = ws[k]?) →
    listWalk (fuel + 1) ptr s = andThen (feed ws s) fun t =>
      if field hdr 0 24 = 0xFFFFFF#24 then .next t else listWalk fuel ((field hdr 0 24).toNat / 4 * 4) t

/-- A list call stops exactly when its list outruns the bound of the walk, and then says whether a hang or an exhausted
`LIST_FUEL` stopped it; a list that outruns as many nodes as there are word addresses outruns every number of them, so
without a `LIST_FUEL` exactly the lists that never end stop; a node without payload that links to itself is one (R210,
R211, R416; the bound is log entry 6). -/
def Obligations.CyclicListNeverReturns : Prop :=
  (∀ (base ctrl : Word) (bc bs : BitVec 16) (s : State), s.lock = .free → ctrlList ctrl = true →
    (dmaTransfer base bc bs ctrl s = .fault listStop ↔
      listReaches s.mainMem Config.listBound (wordAddr base.toNat) = true) ∧
    (∀ r, dmaTransfer base bc bs ctrl s = .fault r → r = listStop)) ∧
  (∀ (m : Memory) (ptr n : Nat), wordAddr ptr = ptr →
    listReaches m Config.nodeAddresses ptr = true → listReaches m n ptr = true) ∧
  (Config.listBound = (match Config.listFuel with
      | none => Config.nodeAddresses
      | some n => max 1 n) ∧
    listStop = (match Config.listFuel with
      | none => .listNeverEnds
      | some _ => .listFuelExhausted)) ∧
  ∀ (base ctrl hdr : Word) (bc bs : BitVec 16) (s : State), s.lock = .free → ctrlList ctrl = true →
    memRead s.mainMem (wordAddr base.toNat) = some hdr → nodeCount hdr = 0 → isLastNode hdr = false →
    wordAddr (field hdr 0 24).toNat = wordAddr base.toNat →
    dmaTransfer base bc bs ctrl s = .fault listStop ∧ ∀ n, listReaches s.mainMem n (wordAddr base.toNat) = true

end
end

