-- ==== Sys2Proof/Laws/Sparse.lean ====
section
/-! SUPPORT. The laws of sparse storage: reading after listing and unlisting, and the canonical form kept. -/

namespace Sys2Proof.Machine

variable {α : Type}

@[simp] theorem Sparse.get?_nil (a : Nat) : Sparse.get? a ([] : List (Nat × α)) = none := rfl

theorem Sparse.get?_set_same (a : Nat) (v : α) (l : List (Nat × α)) :
    Sparse.get? a (Sparse.set a v l) = some v := by
  induction l with
  | nil => simp [Sparse.set, Sparse.get?]
  | cons c t ih =>
    obtain ⟨b, w⟩ := c
    simp only [Sparse.set]
    split
    · simp [Sparse.get?]
    · split
      · simp [Sparse.get?]
      · next h => simp [Sparse.get?, h, ih]

theorem Sparse.get?_set_ne {a b : Nat} (h : b ≠ a) (v : α) (l : List (Nat × α)) :
    Sparse.get? b (Sparse.set a v l) = Sparse.get? b l := by
  induction l with
  | nil => simp [Sparse.set, Sparse.get?, Ne.symm h]
  | cons c t ih =>
    obtain ⟨d, w⟩ := c
    simp only [Sparse.set]
    split
    · simp [Sparse.get?, Ne.symm h]
    · split
      · next hd => subst hd; simp [Sparse.get?, Ne.symm h]
      · simp [Sparse.get?, ih]

theorem Sparse.get?_set (a b : Nat) (v : α) (l : List (Nat × α)) :
    Sparse.get? b (Sparse.set a v l) = if b = a then some v else Sparse.get? b l := by
  split
  · next h => subst h; exact Sparse.get?_set_same ..
  · next h => exact Sparse.get?_set_ne h ..

theorem Sparse.get?_erase (a b : Nat) (l : List (Nat × α)) :
    Sparse.get? b (Sparse.erase a l) = if b = a then none else Sparse.get? b l := by
  induction l with
  | nil => simp [Sparse.erase]
  | cons c t ih =>
    obtain ⟨d, w⟩ := c
    by_cases hd : d = a <;> by_cases hb : b = a <;> simp_all [Sparse.erase, Sparse.get?]
    · intro h; omega

/-- What is listed after listing `v` under `a` is that entry or was listed before. -/
theorem Sparse.mem_set {a : Nat} {v : α} {l : List (Nat × α)} {c : Nat × α} (h : c ∈ Sparse.set a v l) :
    c = (a, v) ∨ c ∈ l := by
  induction l with
  | nil => simpa [Sparse.set] using h
  | cons d t ih =>
    obtain ⟨b, w⟩ := d
    simp only [Sparse.set] at h
    split at h
    · simpa using h
    · split at h
      · rcases List.mem_cons.1 h with h | h <;> simp [h]
      · rcases List.mem_cons.1 h with h | h
        · simp [h]
        · rcases ih h with h | h <;> simp [h]

theorem Sparse.mem_erase {a : Nat} {l : List (Nat × α)} {c : Nat × α} (h : c ∈ Sparse.erase a l) : c ∈ l := by
  induction l with
  | nil => simp [Sparse.erase] at h
  | cons d t ih =>
    obtain ⟨b, w⟩ := d
    simp only [Sparse.erase] at h
    split at h
    · exact List.mem_cons_of_mem _ (ih h)
    · rcases List.mem_cons.1 h with h | h
      · simp [h]
      · exact List.mem_cons_of_mem _ (ih h)

theorem Sparse.rising_nil : Sparse.Rising ([] : List (Nat × α)) := List.Pairwise.nil

theorem Sparse.rising_cons {b : Nat} {w : α} {t : List (Nat × α)} :
    Sparse.Rising ((b, w) :: t) ↔ (∀ c ∈ t, b < c.1) ∧ Sparse.Rising t := by
  simp [Sparse.Rising]

theorem Sparse.rising_set {l : List (Nat × α)} (h : Sparse.Rising l) (a : Nat) (v : α) :
    Sparse.Rising (Sparse.set a v l) := by
  induction l with
  | nil => simp [Sparse.set, Sparse.Rising]
  | cons d t ih =>
    obtain ⟨b, w⟩ := d
    obtain ⟨hb, ht⟩ := Sparse.rising_cons.1 h
    simp only [Sparse.set]
    split
    · next hab =>
      refine Sparse.rising_cons.2 ⟨fun c hc => ?_, h⟩
      rcases List.mem_cons.1 hc with hc | hc
      · simpa [hc] using hab
      · exact lt_trans hab (hb c hc)
    · split
      · next _ hba => subst hba; exact Sparse.rising_cons.2 ⟨hb, ht⟩
      · next hab hba =>
        refine Sparse.rising_cons.2 ⟨fun c hc => ?_, ih ht⟩
        rcases Sparse.mem_set hc with rfl | hc
        · simp only; omega
        · exact hb c hc

theorem Sparse.rising_erase {l : List (Nat × α)} (h : Sparse.Rising l) (a : Nat) :
    Sparse.Rising (Sparse.erase a l) := by
  induction l with
  | nil => simp [Sparse.erase, Sparse.Rising]
  | cons d t ih =>
    obtain ⟨b, w⟩ := d
    obtain ⟨hb, ht⟩ := Sparse.rising_cons.1 h
    simp only [Sparse.erase]
    split
    · exact ih ht
    · exact Sparse.rising_cons.2 ⟨fun c hc => hb c (Sparse.mem_erase hc), ih ht⟩

end Sys2Proof.Machine
end

