-- ==== Sys2Proof/Laws/State.lean ====
section
/-! SUPPORT. What each named update of the state leaves in each field, so that no proof unfolds a record
update. A field an update may change to something that depends on a test has its lemma in Laws/Ops.lean. -/

namespace Sys2Proof.Machine

@[simp] theorem emit_dm (e : Event) (s : State) : (emit e s).dm = s.dm := rfl
@[simp] theorem emit_tw (e : Event) (s : State) : (emit e s).tw = s.tw := rfl
@[simp] theorem emit_clip (e : Event) (s : State) : (emit e s).clip = s.clip := rfl
@[simp] theorem emit_ofs (e : Event) (s : State) : (emit e s).ofs = s.ofs := rfl
@[simp] theorem emit_msk (e : Event) (s : State) : (emit e s).msk = s.msk := rfl
@[simp] theorem emit_dstate (e : Event) (s : State) : (emit e s).dstate = s.dstate := rfl
@[simp] theorem emit_cbuf (e : Event) (s : State) : (emit e s).cbuf = s.cbuf := rfl
@[simp] theorem emit_clen (e : Event) (s : State) : (emit e s).clen = s.clen := rfl
@[simp] theorem emit_ctarget (e : Event) (s : State) : (emit e s).ctarget = s.ctarget := rfl
@[simp] theorem emit_xkind (e : Event) (s : State) : (emit e s).xkind = s.xkind := rfl
@[simp] theorem emit_img (e : Event) (s : State) : (emit e s).img = s.img := rfl
@[simp] theorem emit_pline (e : Event) (s : State) : (emit e s).pline = s.pline := rfl
@[simp] theorem emit_rd (e : Event) (s : State) : (emit e s).rd = s.rd := rfl
@[simp] theorem emit_pend (e : Event) (s : State) : (emit e s).pend = s.pend := rfl
@[simp] theorem emit_cur (e : Event) (s : State) : (emit e s).cur = s.cur := rfl
@[simp] theorem emit_dmadir (e : Event) (s : State) : (emit e s).dmadir = s.dmadir := rfl
@[simp] theorem emit_field (e : Event) (s : State) : (emit e s).field = s.field := rfl
@[simp] theorem emit_vram (e : Event) (s : State) : (emit e s).vram = s.vram := rfl
@[simp] theorem emit_tpc (e : Event) (s : State) : (emit e s).tpc = s.tpc := rfl
@[simp] theorem emit_dirty (e : Event) (s : State) : (emit e s).dirty = s.dirty := rfl
@[simp] theorem emit_pendingDirty (e : Event) (s : State) : (emit e s).pendingDirty = s.pendingDirty := rfl
@[simp] theorem emit_tAny (e : Event) (s : State) : (emit e s).tAny = s.tAny := rfl
@[simp] theorem emit_tDirty (e : Event) (s : State) : (emit e s).tDirty = s.tDirty := rfl
@[simp] theorem emit_diagSemiPolyline (e : Event) (s : State) : (emit e s).diagSemiPolyline = s.diagSemiPolyline := rfl
@[simp] theorem emit_diagMod16 (e : Event) (s : State) : (emit e s).diagMod16 = s.diagMod16 := rfl
@[simp] theorem emit_lock (e : Event) (s : State) : (emit e s).lock = s.lock := rfl
@[simp] theorem emit_trace (e : Event) (s : State) : (emit e s).trace = s.trace ++ [e] := rfl
@[simp] theorem emit_calls (e : Event) (s : State) : (emit e s).calls = s.calls := rfl
@[simp] theorem emit_now (e : Event) (s : State) : (emit e s).now = s.now := rfl
@[simp] theorem emit_mainMem (e : Event) (s : State) : (emit e s).mainMem = s.mainMem := rfl
@[simp] theorem emit_returns (e : Event) (s : State) : (emit e s).returns = s.returns := rfl

@[simp] theorem addDirty_dm (r : Rect) (s : State) : (addDirty r s).dm = s.dm := rfl
@[simp] theorem addDirty_tw (r : Rect) (s : State) : (addDirty r s).tw = s.tw := rfl
@[simp] theorem addDirty_clip (r : Rect) (s : State) : (addDirty r s).clip = s.clip := rfl
@[simp] theorem addDirty_ofs (r : Rect) (s : State) : (addDirty r s).ofs = s.ofs := rfl
@[simp] theorem addDirty_msk (r : Rect) (s : State) : (addDirty r s).msk = s.msk := rfl
@[simp] theorem addDirty_dstate (r : Rect) (s : State) : (addDirty r s).dstate = s.dstate := rfl
@[simp] theorem addDirty_cbuf (r : Rect) (s : State) : (addDirty r s).cbuf = s.cbuf := rfl
@[simp] theorem addDirty_clen (r : Rect) (s : State) : (addDirty r s).clen = s.clen := rfl
@[simp] theorem addDirty_ctarget (r : Rect) (s : State) : (addDirty r s).ctarget = s.ctarget := rfl
@[simp] theorem addDirty_xkind (r : Rect) (s : State) : (addDirty r s).xkind = s.xkind := rfl
@[simp] theorem addDirty_img (r : Rect) (s : State) : (addDirty r s).img = s.img := rfl
@[simp] theorem addDirty_pline (r : Rect) (s : State) : (addDirty r s).pline = s.pline := rfl
@[simp] theorem addDirty_rd (r : Rect) (s : State) : (addDirty r s).rd = s.rd := rfl
@[simp] theorem addDirty_pend (r : Rect) (s : State) : (addDirty r s).pend = s.pend := rfl
@[simp] theorem addDirty_cur (r : Rect) (s : State) : (addDirty r s).cur = s.cur := rfl
@[simp] theorem addDirty_dmadir (r : Rect) (s : State) : (addDirty r s).dmadir = s.dmadir := rfl
@[simp] theorem addDirty_field (r : Rect) (s : State) : (addDirty r s).field = s.field := rfl
@[simp] theorem addDirty_vram (r : Rect) (s : State) : (addDirty r s).vram = s.vram := rfl
@[simp] theorem addDirty_tpc (r : Rect) (s : State) : (addDirty r s).tpc = s.tpc := rfl
@[simp] theorem addDirty_dirty (r : Rect) (s : State) : (addDirty r s).dirty = some (bbox s.dirty r) := rfl
@[simp] theorem addDirty_pendingDirty (r : Rect) (s : State) : (addDirty r s).pendingDirty = s.pendingDirty := rfl
@[simp] theorem addDirty_tAny (r : Rect) (s : State) : (addDirty r s).tAny = s.tAny := rfl
@[simp] theorem addDirty_tDirty (r : Rect) (s : State) : (addDirty r s).tDirty = s.tDirty := rfl
@[simp] theorem addDirty_diagSemiPolyline (r : Rect) (s : State) : (addDirty r s).diagSemiPolyline = s.diagSemiPolyline := rfl
@[simp] theorem addDirty_diagMod16 (r : Rect) (s : State) : (addDirty r s).diagMod16 = s.diagMod16 := rfl
@[simp] theorem addDirty_lock (r : Rect) (s : State) : (addDirty r s).lock = s.lock := rfl
@[simp] theorem addDirty_trace (r : Rect) (s : State) : (addDirty r s).trace = s.trace := rfl
@[simp] theorem addDirty_calls (r : Rect) (s : State) : (addDirty r s).calls = s.calls := rfl
@[simp] theorem addDirty_now (r : Rect) (s : State) : (addDirty r s).now = s.now := rfl
@[simp] theorem addDirty_mainMem (r : Rect) (s : State) : (addDirty r s).mainMem = s.mainMem := rfl
@[simp] theorem addDirty_returns (r : Rect) (s : State) : (addDirty r s).returns = s.returns := rfl

@[simp] theorem acquireLock_dm (s : State) : (acquireLock s).dm = s.dm := rfl
@[simp] theorem acquireLock_tw (s : State) : (acquireLock s).tw = s.tw := rfl
@[simp] theorem acquireLock_clip (s : State) : (acquireLock s).clip = s.clip := rfl
@[simp] theorem acquireLock_ofs (s : State) : (acquireLock s).ofs = s.ofs := rfl
@[simp] theorem acquireLock_msk (s : State) : (acquireLock s).msk = s.msk := rfl
@[simp] theorem acquireLock_dstate (s : State) : (acquireLock s).dstate = s.dstate := rfl
@[simp] theorem acquireLock_cbuf (s : State) : (acquireLock s).cbuf = s.cbuf := rfl
@[simp] theorem acquireLock_clen (s : State) : (acquireLock s).clen = s.clen := rfl
@[simp] theorem acquireLock_ctarget (s : State) : (acquireLock s).ctarget = s.ctarget := rfl
@[simp] theorem acquireLock_xkind (s : State) : (acquireLock s).xkind = s.xkind := rfl
@[simp] theorem acquireLock_img (s : State) : (acquireLock s).img = s.img := rfl
@[simp] theorem acquireLock_pline (s : State) : (acquireLock s).pline = s.pline := rfl
@[simp] theorem acquireLock_rd (s : State) : (acquireLock s).rd = s.rd := rfl
@[simp] theorem acquireLock_pend (s : State) : (acquireLock s).pend = s.pend := rfl
@[simp] theorem acquireLock_cur (s : State) : (acquireLock s).cur = s.cur := rfl
@[simp] theorem acquireLock_dmadir (s : State) : (acquireLock s).dmadir = s.dmadir := rfl
@[simp] theorem acquireLock_field (s : State) : (acquireLock s).field = s.field := rfl
@[simp] theorem acquireLock_vram (s : State) : (acquireLock s).vram = s.vram := rfl
@[simp] theorem acquireLock_tpc (s : State) : (acquireLock s).tpc = s.tpc := rfl
@[simp] theorem acquireLock_dirty (s : State) : (acquireLock s).dirty = s.dirty := rfl
@[simp] theorem acquireLock_pendingDirty (s : State) : (acquireLock s).pendingDirty = s.pendingDirty := rfl
@[simp] theorem acquireLock_tAny (s : State) : (acquireLock s).tAny = s.tAny := rfl
@[simp] theorem acquireLock_tDirty (s : State) : (acquireLock s).tDirty = s.tDirty := rfl
@[simp] theorem acquireLock_diagSemiPolyline (s : State) : (acquireLock s).diagSemiPolyline = s.diagSemiPolyline := rfl
@[simp] theorem acquireLock_diagMod16 (s : State) : (acquireLock s).diagMod16 = s.diagMod16 := rfl
@[simp] theorem acquireLock_lock (s : State) : (acquireLock s).lock = .block := rfl
@[simp] theorem acquireLock_trace (s : State) : (acquireLock s).trace = s.trace ++ [.acquire] := rfl
@[simp] theorem acquireLock_calls (s : State) : (acquireLock s).calls = s.calls := rfl
@[simp] theorem acquireLock_now (s : State) : (acquireLock s).now = s.now := rfl
@[simp] theorem acquireLock_mainMem (s : State) : (acquireLock s).mainMem = s.mainMem := rfl
@[simp] theorem acquireLock_returns (s : State) : (acquireLock s).returns = s.returns := rfl

@[simp] theorem releaseLock_dm (s : State) : (releaseLock s).dm = s.dm := rfl
@[simp] theorem releaseLock_tw (s : State) : (releaseLock s).tw = s.tw := rfl
@[simp] theorem releaseLock_clip (s : State) : (releaseLock s).clip = s.clip := rfl
@[simp] theorem releaseLock_ofs (s : State) : (releaseLock s).ofs = s.ofs := rfl
@[simp] theorem releaseLock_msk (s : State) : (releaseLock s).msk = s.msk := rfl
@[simp] theorem releaseLock_dstate (s : State) : (releaseLock s).dstate = s.dstate := rfl
@[simp] theorem releaseLock_cbuf (s : State) : (releaseLock s).cbuf = s.cbuf := rfl
@[simp] theorem releaseLock_clen (s : State) : (releaseLock s).clen = s.clen := rfl
@[simp] theorem releaseLock_ctarget (s : State) : (releaseLock s).ctarget = s.ctarget := rfl
@[simp] theorem releaseLock_xkind (s : State) : (releaseLock s).xkind = s.xkind := rfl
@[simp] theorem releaseLock_img (s : State) : (releaseLock s).img = s.img := rfl
@[simp] theorem releaseLock_pline (s : State) : (releaseLock s).pline = s.pline := rfl
@[simp] theorem releaseLock_rd (s : State) : (releaseLock s).rd = s.rd := rfl
@[simp] theorem releaseLock_pend (s : State) : (releaseLock s).pend = s.pend := rfl
@[simp] theorem releaseLock_cur (s : State) : (releaseLock s).cur = s.cur := rfl
@[simp] theorem releaseLock_dmadir (s : State) : (releaseLock s).dmadir = s.dmadir := rfl
@[simp] theorem releaseLock_field (s : State) : (releaseLock s).field = s.field := rfl
@[simp] theorem releaseLock_vram (s : State) : (releaseLock s).vram = s.vram := rfl
@[simp] theorem releaseLock_tpc (s : State) : (releaseLock s).tpc = s.tpc := rfl
@[simp] theorem releaseLock_dirty (s : State) : (releaseLock s).dirty = s.dirty := rfl
@[simp] theorem releaseLock_pendingDirty (s : State) : (releaseLock s).pendingDirty = s.pendingDirty := rfl
@[simp] theorem releaseLock_tAny (s : State) : (releaseLock s).tAny = s.tAny := rfl
@[simp] theorem releaseLock_tDirty (s : State) : (releaseLock s).tDirty = s.tDirty := rfl
@[simp] theorem releaseLock_diagSemiPolyline (s : State) : (releaseLock s).diagSemiPolyline = s.diagSemiPolyline := rfl
@[simp] theorem releaseLock_diagMod16 (s : State) : (releaseLock s).diagMod16 = s.diagMod16 := rfl
@[simp] theorem releaseLock_lock (s : State) : (releaseLock s).lock = .free := rfl
@[simp] theorem releaseLock_trace (s : State) : (releaseLock s).trace = s.trace ++ [.release] := rfl
@[simp] theorem releaseLock_calls (s : State) : (releaseLock s).calls = s.calls := rfl
@[simp] theorem releaseLock_now (s : State) : (releaseLock s).now = s.now := rfl
@[simp] theorem releaseLock_mainMem (s : State) : (releaseLock s).mainMem = s.mainMem := rfl
@[simp] theorem releaseLock_returns (s : State) : (releaseLock s).returns = s.returns := rfl

@[simp] theorem flushPages_dm (s : State) : (flushPages s).dm = s.dm := rfl
@[simp] theorem flushPages_tw (s : State) : (flushPages s).tw = s.tw := rfl
@[simp] theorem flushPages_clip (s : State) : (flushPages s).clip = s.clip := rfl
@[simp] theorem flushPages_ofs (s : State) : (flushPages s).ofs = s.ofs := rfl
@[simp] theorem flushPages_msk (s : State) : (flushPages s).msk = s.msk := rfl
@[simp] theorem flushPages_dstate (s : State) : (flushPages s).dstate = s.dstate := rfl
@[simp] theorem flushPages_cbuf (s : State) : (flushPages s).cbuf = s.cbuf := rfl
@[simp] theorem flushPages_clen (s : State) : (flushPages s).clen = s.clen := rfl
@[simp] theorem flushPages_ctarget (s : State) : (flushPages s).ctarget = s.ctarget := rfl
@[simp] theorem flushPages_xkind (s : State) : (flushPages s).xkind = s.xkind := rfl
@[simp] theorem flushPages_img (s : State) : (flushPages s).img = s.img := rfl
@[simp] theorem flushPages_pline (s : State) : (flushPages s).pline = s.pline := rfl
@[simp] theorem flushPages_rd (s : State) : (flushPages s).rd = s.rd := rfl
@[simp] theorem flushPages_pend (s : State) : (flushPages s).pend = s.pend := rfl
@[simp] theorem flushPages_cur (s : State) : (flushPages s).cur = s.cur := rfl
@[simp] theorem flushPages_dmadir (s : State) : (flushPages s).dmadir = s.dmadir := rfl
@[simp] theorem flushPages_field (s : State) : (flushPages s).field = s.field := rfl
@[simp] theorem flushPages_vram (s : State) : (flushPages s).vram = s.vram := rfl
@[simp] theorem flushPages_tpc (s : State) : (flushPages s).tpc = [] := rfl
@[simp] theorem flushPages_dirty (s : State) : (flushPages s).dirty = s.dirty := rfl
@[simp] theorem flushPages_pendingDirty (s : State) : (flushPages s).pendingDirty = s.pendingDirty := rfl
@[simp] theorem flushPages_tAny (s : State) : (flushPages s).tAny = s.tAny := rfl
@[simp] theorem flushPages_tDirty (s : State) : (flushPages s).tDirty = s.tDirty := rfl
@[simp] theorem flushPages_diagSemiPolyline (s : State) : (flushPages s).diagSemiPolyline = s.diagSemiPolyline := rfl
@[simp] theorem flushPages_diagMod16 (s : State) : (flushPages s).diagMod16 = s.diagMod16 := rfl
@[simp] theorem flushPages_lock (s : State) : (flushPages s).lock = s.lock := rfl
@[simp] theorem flushPages_trace (s : State) : (flushPages s).trace = s.trace := rfl
@[simp] theorem flushPages_calls (s : State) : (flushPages s).calls = s.calls := rfl
@[simp] theorem flushPages_now (s : State) : (flushPages s).now = s.now := rfl
@[simp] theorem flushPages_mainMem (s : State) : (flushPages s).mainMem = s.mainMem := rfl
@[simp] theorem flushPages_returns (s : State) : (flushPages s).returns = s.returns := rfl

@[simp] theorem invalidate_dm (r : Rect) (s : State) : (invalidate r s).dm = s.dm := rfl
@[simp] theorem invalidate_tw (r : Rect) (s : State) : (invalidate r s).tw = s.tw := rfl
@[simp] theorem invalidate_clip (r : Rect) (s : State) : (invalidate r s).clip = s.clip := rfl
@[simp] theorem invalidate_ofs (r : Rect) (s : State) : (invalidate r s).ofs = s.ofs := rfl
@[simp] theorem invalidate_msk (r : Rect) (s : State) : (invalidate r s).msk = s.msk := rfl
@[simp] theorem invalidate_dstate (r : Rect) (s : State) : (invalidate r s).dstate = s.dstate := rfl
@[simp] theorem invalidate_cbuf (r : Rect) (s : State) : (invalidate r s).cbuf = s.cbuf := rfl
@[simp] theorem invalidate_clen (r : Rect) (s : State) : (invalidate r s).clen = s.clen := rfl
@[simp] theorem invalidate_ctarget (r : Rect) (s : State) : (invalidate r s).ctarget = s.ctarget := rfl
@[simp] theorem invalidate_xkind (r : Rect) (s : State) : (invalidate r s).xkind = s.xkind := rfl
@[simp] theorem invalidate_img (r : Rect) (s : State) : (invalidate r s).img = s.img := rfl
@[simp] theorem invalidate_pline (r : Rect) (s : State) : (invalidate r s).pline = s.pline := rfl
@[simp] theorem invalidate_rd (r : Rect) (s : State) : (invalidate r s).rd = s.rd := rfl
@[simp] theorem invalidate_pend (r : Rect) (s : State) : (invalidate r s).pend = s.pend := rfl
@[simp] theorem invalidate_cur (r : Rect) (s : State) : (invalidate r s).cur = s.cur := rfl
@[simp] theorem invalidate_dmadir (r : Rect) (s : State) : (invalidate r s).dmadir = s.dmadir := rfl
@[simp] theorem invalidate_field (r : Rect) (s : State) : (invalidate r s).field = s.field := rfl
@[simp] theorem invalidate_vram (r : Rect) (s : State) : (invalidate r s).vram = { s.vram with flags := invalidateFlags r s.vram.flags } := rfl
@[simp] theorem invalidate_tpc (r : Rect) (s : State) : (invalidate r s).tpc = s.tpc.filter (fun e => !footprintMeets e r) := rfl
@[simp] theorem invalidate_dirty (r : Rect) (s : State) : (invalidate r s).dirty = s.dirty := rfl
@[simp] theorem invalidate_pendingDirty (r : Rect) (s : State) : (invalidate r s).pendingDirty = s.pendingDirty := rfl
@[simp] theorem invalidate_tAny (r : Rect) (s : State) : (invalidate r s).tAny = s.tAny := rfl
@[simp] theorem invalidate_tDirty (r : Rect) (s : State) : (invalidate r s).tDirty = s.tDirty := rfl
@[simp] theorem invalidate_diagSemiPolyline (r : Rect) (s : State) : (invalidate r s).diagSemiPolyline = s.diagSemiPolyline := rfl
@[simp] theorem invalidate_diagMod16 (r : Rect) (s : State) : (invalidate r s).diagMod16 = s.diagMod16 := rfl
@[simp] theorem invalidate_lock (r : Rect) (s : State) : (invalidate r s).lock = s.lock := rfl
@[simp] theorem invalidate_trace (r : Rect) (s : State) : (invalidate r s).trace = s.trace := rfl
@[simp] theorem invalidate_calls (r : Rect) (s : State) : (invalidate r s).calls = s.calls := rfl
@[simp] theorem invalidate_now (r : Rect) (s : State) : (invalidate r s).now = s.now := rfl
@[simp] theorem invalidate_mainMem (r : Rect) (s : State) : (invalidate r s).mainMem = s.mainMem := rfl
@[simp] theorem invalidate_returns (r : Rect) (s : State) : (invalidate r s).returns = s.returns := rfl

@[simp] theorem report_dm (r : Rect) (s : State) : (report r s).dm = s.dm := rfl
@[simp] theorem report_tw (r : Rect) (s : State) : (report r s).tw = s.tw := rfl
@[simp] theorem report_clip (r : Rect) (s : State) : (report r s).clip = s.clip := rfl
@[simp] theorem report_ofs (r : Rect) (s : State) : (report r s).ofs = s.ofs := rfl
@[simp] theorem report_msk (r : Rect) (s : State) : (report r s).msk = s.msk := rfl
@[simp] theorem report_dstate (r : Rect) (s : State) : (report r s).dstate = s.dstate := rfl
@[simp] theorem report_cbuf (r : Rect) (s : State) : (report r s).cbuf = s.cbuf := rfl
@[simp] theorem report_clen (r : Rect) (s : State) : (report r s).clen = s.clen := rfl
@[simp] theorem report_ctarget (r : Rect) (s : State) : (report r s).ctarget = s.ctarget := rfl
@[simp] theorem report_xkind (r : Rect) (s : State) : (report r s).xkind = s.xkind := rfl
@[simp] theorem report_img (r : Rect) (s : State) : (report r s).img = s.img := rfl
@[simp] theorem report_pline (r : Rect) (s : State) : (report r s).pline = s.pline := rfl
@[simp] theorem report_rd (r : Rect) (s : State) : (report r s).rd = s.rd := rfl
@[simp] theorem report_pend (r : Rect) (s : State) : (report r s).pend = s.pend := rfl
@[simp] theorem report_cur (r : Rect) (s : State) : (report r s).cur = s.cur := rfl
@[simp] theorem report_dmadir (r : Rect) (s : State) : (report r s).dmadir = s.dmadir := rfl
@[simp] theorem report_field (r : Rect) (s : State) : (report r s).field = s.field := rfl
@[simp] theorem report_vram (r : Rect) (s : State) : (report r s).vram = { s.vram with flags := invalidateFlags r s.vram.flags } := rfl
@[simp] theorem report_tpc (r : Rect) (s : State) : (report r s).tpc = s.tpc.filter (fun e => !footprintMeets e r) := rfl
@[simp] theorem report_dirty (r : Rect) (s : State) : (report r s).dirty = some (bbox s.dirty r) := rfl
@[simp] theorem report_pendingDirty (r : Rect) (s : State) : (report r s).pendingDirty = s.pendingDirty := rfl
@[simp] theorem report_tAny (r : Rect) (s : State) : (report r s).tAny = s.tAny := rfl
@[simp] theorem report_tDirty (r : Rect) (s : State) : (report r s).tDirty = s.tDirty := rfl
@[simp] theorem report_diagSemiPolyline (r : Rect) (s : State) : (report r s).diagSemiPolyline = s.diagSemiPolyline := rfl
@[simp] theorem report_diagMod16 (r : Rect) (s : State) : (report r s).diagMod16 = s.diagMod16 := rfl
@[simp] theorem report_lock (r : Rect) (s : State) : (report r s).lock = s.lock := rfl
@[simp] theorem report_trace (r : Rect) (s : State) : (report r s).trace = s.trace := rfl
@[simp] theorem report_calls (r : Rect) (s : State) : (report r s).calls = s.calls := rfl
@[simp] theorem report_now (r : Rect) (s : State) : (report r s).now = s.now := rfl
@[simp] theorem report_mainMem (r : Rect) (s : State) : (report r s).mainMem = s.mainMem := rfl
@[simp] theorem report_returns (r : Rect) (s : State) : (report r s).returns = s.returns := rfl

@[simp] theorem drawPixels_dm (t r m : Bool) (k : ClutSel) (ps : List Pixel) (s : State) : (drawPixels t r m k ps s).dm = s.dm := rfl
@[simp] theorem drawPixels_tw (t r m : Bool) (k : ClutSel) (ps : List Pixel) (s : State) : (drawPixels t r m k ps s).tw = s.tw := rfl
@[simp] theorem drawPixels_clip (t r m : Bool) (k : ClutSel) (ps : List Pixel) (s : State) : (drawPixels t r m k ps s).clip = s.clip := rfl
@[simp] theorem drawPixels_ofs (t r m : Bool) (k : ClutSel) (ps : List Pixel) (s : State) : (drawPixels t r m k ps s).ofs = s.ofs := rfl
@[simp] theorem drawPixels_msk (t r m : Bool) (k : ClutSel) (ps : List Pixel) (s : State) : (drawPixels t r m k ps s).msk = s.msk := rfl
@[simp] theorem drawPixels_dstate (t r m : Bool) (k : ClutSel) (ps : List Pixel) (s : State) : (drawPixels t r m k ps s).dstate = s.dstate := rfl
@[simp] theorem drawPixels_cbuf (t r m : Bool) (k : ClutSel) (ps : List Pixel) (s : State) : (drawPixels t r m k ps s).cbuf = s.cbuf := rfl
@[simp] theorem drawPixels_clen (t r m : Bool) (k : ClutSel) (ps : List Pixel) (s : State) : (drawPixels t r m k ps s).clen = s.clen := rfl
@[simp] theorem drawPixels_ctarget (t r m : Bool) (k : ClutSel) (ps : List Pixel) (s : State) : (drawPixels t r m k ps s).ctarget = s.ctarget := rfl
@[simp] theorem drawPixels_xkind (t r m : Bool) (k : ClutSel) (ps : List Pixel) (s : State) : (drawPixels t r m k ps s).xkind = s.xkind := rfl
@[simp] theorem drawPixels_img (t r m : Bool) (k : ClutSel) (ps : List Pixel) (s : State) : (drawPixels t r m k ps s).img = s.img := rfl
@[simp] theorem drawPixels_pline (t r m : Bool) (k : ClutSel) (ps : List Pixel) (s : State) : (drawPixels t r m k ps s).pline = s.pline := rfl
@[simp] theorem drawPixels_rd (t r m : Bool) (k : ClutSel) (ps : List Pixel) (s : State) : (drawPixels t r m k ps s).rd = s.rd := rfl
@[simp] theorem drawPixels_pend (t r m : Bool) (k : ClutSel) (ps : List Pixel) (s : State) : (drawPixels t r m k ps s).pend = s.pend := rfl
@[simp] theorem drawPixels_cur (t r m : Bool) (k : ClutSel) (ps : List Pixel) (s : State) : (drawPixels t r m k ps s).cur = s.cur := rfl
@[simp] theorem drawPixels_dmadir (t r m : Bool) (k : ClutSel) (ps : List Pixel) (s : State) : (drawPixels t r m k ps s).dmadir = s.dmadir := rfl
@[simp] theorem drawPixels_field (t r m : Bool) (k : ClutSel) (ps : List Pixel) (s : State) : (drawPixels t r m k ps s).field = s.field := rfl
@[simp] theorem drawPixels_vram (t r m : Bool) (k : ClutSel) (ps : List Pixel) (s : State) : (drawPixels t r m k ps s).vram = plotAll (s.mode t (effectiveRaw t r s) m k) s.vram ps := rfl
@[simp] theorem drawPixels_tpc (t r m : Bool) (k : ClutSel) (ps : List Pixel) (s : State) : (drawPixels t r m k ps s).tpc = s.tpc := rfl
@[simp] theorem drawPixels_dirty (t r m : Bool) (k : ClutSel) (ps : List Pixel) (s : State) : (drawPixels t r m k ps s).dirty = s.dirty := rfl
@[simp] theorem drawPixels_pendingDirty (t r m : Bool) (k : ClutSel) (ps : List Pixel) (s : State) : (drawPixels t r m k ps s).pendingDirty = s.pendingDirty := rfl
@[simp] theorem drawPixels_tAny (t r m : Bool) (k : ClutSel) (ps : List Pixel) (s : State) : (drawPixels t r m k ps s).tAny = s.tAny := rfl
@[simp] theorem drawPixels_tDirty (t r m : Bool) (k : ClutSel) (ps : List Pixel) (s : State) : (drawPixels t r m k ps s).tDirty = s.tDirty := rfl
@[simp] theorem drawPixels_diagSemiPolyline (t r m : Bool) (k : ClutSel) (ps : List Pixel) (s : State) : (drawPixels t r m k ps s).diagSemiPolyline = s.diagSemiPolyline := rfl
@[simp] theorem drawPixels_diagMod16 (t r m : Bool) (k : ClutSel) (ps : List Pixel) (s : State) : (drawPixels t r m k ps s).diagMod16 = s.diagMod16 := rfl
@[simp] theorem drawPixels_lock (t r m : Bool) (k : ClutSel) (ps : List Pixel) (s : State) : (drawPixels t r m k ps s).lock = s.lock := rfl
@[simp] theorem drawPixels_trace (t r m : Bool) (k : ClutSel) (ps : List Pixel) (s : State) : (drawPixels t r m k ps s).trace = s.trace := rfl
@[simp] theorem drawPixels_calls (t r m : Bool) (k : ClutSel) (ps : List Pixel) (s : State) : (drawPixels t r m k ps s).calls = s.calls := rfl
@[simp] theorem drawPixels_now (t r m : Bool) (k : ClutSel) (ps : List Pixel) (s : State) : (drawPixels t r m k ps s).now = s.now := rfl
@[simp] theorem drawPixels_mainMem (t r m : Bool) (k : ClutSel) (ps : List Pixel) (s : State) : (drawPixels t r m k ps s).mainMem = s.mainMem := rfl
@[simp] theorem drawPixels_returns (t r m : Bool) (k : ClutSel) (ps : List Pixel) (s : State) : (drawPixels t r m k ps s).returns = s.returns := rfl

@[simp] theorem openPolyline_dm (k : XKind) (p : Int × Int) (c : Rgb) (s : State) : (openPolyline k p c s).dm = s.dm := rfl
@[simp] theorem openPolyline_tw (k : XKind) (p : Int × Int) (c : Rgb) (s : State) : (openPolyline k p c s).tw = s.tw := rfl
@[simp] theorem openPolyline_clip (k : XKind) (p : Int × Int) (c : Rgb) (s : State) : (openPolyline k p c s).clip = s.clip := rfl
@[simp] theorem openPolyline_ofs (k : XKind) (p : Int × Int) (c : Rgb) (s : State) : (openPolyline k p c s).ofs = s.ofs := rfl
@[simp] theorem openPolyline_msk (k : XKind) (p : Int × Int) (c : Rgb) (s : State) : (openPolyline k p c s).msk = s.msk := rfl
@[simp] theorem openPolyline_dstate (k : XKind) (p : Int × Int) (c : Rgb) (s : State) : (openPolyline k p c s).dstate = .extraData := rfl
@[simp] theorem openPolyline_cbuf (k : XKind) (p : Int × Int) (c : Rgb) (s : State) : (openPolyline k p c s).cbuf = s.cbuf := rfl
@[simp] theorem openPolyline_clen (k : XKind) (p : Int × Int) (c : Rgb) (s : State) : (openPolyline k p c s).clen = s.clen := rfl
@[simp] theorem openPolyline_ctarget (k : XKind) (p : Int × Int) (c : Rgb) (s : State) : (openPolyline k p c s).ctarget = s.ctarget := rfl
@[simp] theorem openPolyline_xkind (k : XKind) (p : Int × Int) (c : Rgb) (s : State) : (openPolyline k p c s).xkind = k := rfl
@[simp] theorem openPolyline_img (k : XKind) (p : Int × Int) (c : Rgb) (s : State) : (openPolyline k p c s).img = s.img := rfl
@[simp] theorem openPolyline_pline (k : XKind) (p : Int × Int) (c : Rgb) (s : State) : (openPolyline k p c s).pline = { s.pline with plast := p, pcol := c, pphase := 0#1 } := rfl
@[simp] theorem openPolyline_rd (k : XKind) (p : Int × Int) (c : Rgb) (s : State) : (openPolyline k p c s).rd = s.rd := rfl
@[simp] theorem openPolyline_pend (k : XKind) (p : Int × Int) (c : Rgb) (s : State) : (openPolyline k p c s).pend = s.pend := rfl
@[simp] theorem openPolyline_cur (k : XKind) (p : Int × Int) (c : Rgb) (s : State) : (openPolyline k p c s).cur = s.cur := rfl
@[simp] theorem openPolyline_dmadir (k : XKind) (p : Int × Int) (c : Rgb) (s : State) : (openPolyline k p c s).dmadir = s.dmadir := rfl
@[simp] theorem openPolyline_field (k : XKind) (p : Int × Int) (c : Rgb) (s : State) : (openPolyline k p c s).field = s.field := rfl
@[simp] theorem openPolyline_vram (k : XKind) (p : Int × Int) (c : Rgb) (s : State) : (openPolyline k p c s).vram = s.vram := rfl
@[simp] theorem openPolyline_tpc (k : XKind) (p : Int × Int) (c : Rgb) (s : State) : (openPolyline k p c s).tpc = s.tpc := rfl
@[simp] theorem openPolyline_dirty (k : XKind) (p : Int × Int) (c : Rgb) (s : State) : (openPolyline k p c s).dirty = s.dirty := rfl
@[simp] theorem openPolyline_pendingDirty (k : XKind) (p : Int × Int) (c : Rgb) (s : State) : (openPolyline k p c s).pendingDirty = s.pendingDirty := rfl
@[simp] theorem openPolyline_tAny (k : XKind) (p : Int × Int) (c : Rgb) (s : State) : (openPolyline k p c s).tAny = s.tAny := rfl
@[simp] theorem openPolyline_tDirty (k : XKind) (p : Int × Int) (c : Rgb) (s : State) : (openPolyline k p c s).tDirty = s.tDirty := rfl
@[simp] theorem openPolyline_diagSemiPolyline (k : XKind) (p : Int × Int) (c : Rgb) (s : State) : (openPolyline k p c s).diagSemiPolyline = s.diagSemiPolyline := rfl
@[simp] theorem openPolyline_diagMod16 (k : XKind) (p : Int × Int) (c : Rgb) (s : State) : (openPolyline k p c s).diagMod16 = s.diagMod16 := rfl
@[simp] theorem openPolyline_lock (k : XKind) (p : Int × Int) (c : Rgb) (s : State) : (openPolyline k p c s).lock = s.lock := rfl
@[simp] theorem openPolyline_trace (k : XKind) (p : Int × Int) (c : Rgb) (s : State) : (openPolyline k p c s).trace = s.trace := rfl
@[simp] theorem openPolyline_calls (k : XKind) (p : Int × Int) (c : Rgb) (s : State) : (openPolyline k p c s).calls = s.calls := rfl
@[simp] theorem openPolyline_now (k : XKind) (p : Int × Int) (c : Rgb) (s : State) : (openPolyline k p c s).now = s.now := rfl
@[simp] theorem openPolyline_mainMem (k : XKind) (p : Int × Int) (c : Rgb) (s : State) : (openPolyline k p c s).mainMem = s.mainMem := rfl
@[simp] theorem openPolyline_returns (k : XKind) (p : Int × Int) (c : Rgb) (s : State) : (openPolyline k p c s).returns = s.returns := rfl

@[simp] theorem imageOut_dm (o : Xfer) (s : State) : (imageOut o s).dm = s.dm := rfl
@[simp] theorem imageOut_tw (o : Xfer) (s : State) : (imageOut o s).tw = s.tw := rfl
@[simp] theorem imageOut_clip (o : Xfer) (s : State) : (imageOut o s).clip = s.clip := rfl
@[simp] theorem imageOut_ofs (o : Xfer) (s : State) : (imageOut o s).ofs = s.ofs := rfl
@[simp] theorem imageOut_msk (o : Xfer) (s : State) : (imageOut o s).msk = s.msk := rfl
@[simp] theorem imageOut_dstate (o : Xfer) (s : State) : (imageOut o s).dstate = s.dstate := rfl
@[simp] theorem imageOut_cbuf (o : Xfer) (s : State) : (imageOut o s).cbuf = s.cbuf := rfl
@[simp] theorem imageOut_clen (o : Xfer) (s : State) : (imageOut o s).clen = s.clen := rfl
@[simp] theorem imageOut_ctarget (o : Xfer) (s : State) : (imageOut o s).ctarget = s.ctarget := rfl
@[simp] theorem imageOut_xkind (o : Xfer) (s : State) : (imageOut o s).xkind = s.xkind := rfl
@[simp] theorem imageOut_img (o : Xfer) (s : State) : (imageOut o s).img = s.img := rfl
@[simp] theorem imageOut_pline (o : Xfer) (s : State) : (imageOut o s).pline = s.pline := rfl
@[simp] theorem imageOut_rd (o : Xfer) (s : State) : (imageOut o s).rd = { s.rd with rx := o.x, ry := o.y, rw := o.w, rh := o.h, rpos := 0, ractive := true } := rfl
@[simp] theorem imageOut_pend (o : Xfer) (s : State) : (imageOut o s).pend = s.pend := rfl
@[simp] theorem imageOut_cur (o : Xfer) (s : State) : (imageOut o s).cur = s.cur := rfl
@[simp] theorem imageOut_dmadir (o : Xfer) (s : State) : (imageOut o s).dmadir = s.dmadir := rfl
@[simp] theorem imageOut_field (o : Xfer) (s : State) : (imageOut o s).field = s.field := rfl
@[simp] theorem imageOut_vram (o : Xfer) (s : State) : (imageOut o s).vram = s.vram := rfl
@[simp] theorem imageOut_tpc (o : Xfer) (s : State) : (imageOut o s).tpc = s.tpc := rfl
@[simp] theorem imageOut_dirty (o : Xfer) (s : State) : (imageOut o s).dirty = s.dirty := rfl
@[simp] theorem imageOut_pendingDirty (o : Xfer) (s : State) : (imageOut o s).pendingDirty = s.pendingDirty := rfl
@[simp] theorem imageOut_tAny (o : Xfer) (s : State) : (imageOut o s).tAny = s.tAny := rfl
@[simp] theorem imageOut_tDirty (o : Xfer) (s : State) : (imageOut o s).tDirty = s.tDirty := rfl
@[simp] theorem imageOut_diagSemiPolyline (o : Xfer) (s : State) : (imageOut o s).diagSemiPolyline = s.diagSemiPolyline := rfl
@[simp] theorem imageOut_diagMod16 (o : Xfer) (s : State) : (imageOut o s).diagMod16 = s.diagMod16 := rfl
@[simp] theorem imageOut_lock (o : Xfer) (s : State) : (imageOut o s).lock = s.lock := rfl
@[simp] theorem imageOut_trace (o : Xfer) (s : State) : (imageOut o s).trace = s.trace := rfl
@[simp] theorem imageOut_calls (o : Xfer) (s : State) : (imageOut o s).calls = s.calls := rfl
@[simp] theorem imageOut_now (o : Xfer) (s : State) : (imageOut o s).now = s.now := rfl
@[simp] theorem imageOut_mainMem (o : Xfer) (s : State) : (imageOut o s).mainMem = s.mainMem := rfl
@[simp] theorem imageOut_returns (o : Xfer) (s : State) : (imageOut o s).returns = s.returns := rfl

@[simp] theorem latchInfo_dm (o : Info) (s : State) : (latchInfo o s).dm = s.dm := rfl
@[simp] theorem latchInfo_tw (o : Info) (s : State) : (latchInfo o s).tw = s.tw := rfl
@[simp] theorem latchInfo_clip (o : Info) (s : State) : (latchInfo o s).clip = s.clip := rfl
@[simp] theorem latchInfo_ofs (o : Info) (s : State) : (latchInfo o s).ofs = s.ofs := rfl
@[simp] theorem latchInfo_msk (o : Info) (s : State) : (latchInfo o s).msk = s.msk := rfl
@[simp] theorem latchInfo_dstate (o : Info) (s : State) : (latchInfo o s).dstate = s.dstate := rfl
@[simp] theorem latchInfo_cbuf (o : Info) (s : State) : (latchInfo o s).cbuf = s.cbuf := rfl
@[simp] theorem latchInfo_clen (o : Info) (s : State) : (latchInfo o s).clen = s.clen := rfl
@[simp] theorem latchInfo_ctarget (o : Info) (s : State) : (latchInfo o s).ctarget = s.ctarget := rfl
@[simp] theorem latchInfo_xkind (o : Info) (s : State) : (latchInfo o s).xkind = s.xkind := rfl
@[simp] theorem latchInfo_img (o : Info) (s : State) : (latchInfo o s).img = s.img := rfl
@[simp] theorem latchInfo_pline (o : Info) (s : State) : (latchInfo o s).pline = s.pline := rfl
@[simp] theorem latchInfo_rd (o : Info) (s : State) : (latchInfo o s).rd = { s.rd with rlatch := (s.infoWord o.index).getD s.rd.rlatch } := rfl
@[simp] theorem latchInfo_pend (o : Info) (s : State) : (latchInfo o s).pend = s.pend := rfl
@[simp] theorem latchInfo_cur (o : Info) (s : State) : (latchInfo o s).cur = s.cur := rfl
@[simp] theorem latchInfo_dmadir (o : Info) (s : State) : (latchInfo o s).dmadir = s.dmadir := rfl
@[simp] theorem latchInfo_field (o : Info) (s : State) : (latchInfo o s).field = s.field := rfl
@[simp] theorem latchInfo_vram (o : Info) (s : State) : (latchInfo o s).vram = s.vram := rfl
@[simp] theorem latchInfo_tpc (o : Info) (s : State) : (latchInfo o s).tpc = s.tpc := rfl
@[simp] theorem latchInfo_dirty (o : Info) (s : State) : (latchInfo o s).dirty = s.dirty := rfl
@[simp] theorem latchInfo_pendingDirty (o : Info) (s : State) : (latchInfo o s).pendingDirty = s.pendingDirty := rfl
@[simp] theorem latchInfo_tAny (o : Info) (s : State) : (latchInfo o s).tAny = s.tAny := rfl
@[simp] theorem latchInfo_tDirty (o : Info) (s : State) : (latchInfo o s).tDirty = s.tDirty := rfl
@[simp] theorem latchInfo_diagSemiPolyline (o : Info) (s : State) : (latchInfo o s).diagSemiPolyline = s.diagSemiPolyline := rfl
@[simp] theorem latchInfo_diagMod16 (o : Info) (s : State) : (latchInfo o s).diagMod16 = s.diagMod16 := rfl
@[simp] theorem latchInfo_lock (o : Info) (s : State) : (latchInfo o s).lock = s.lock := rfl
@[simp] theorem latchInfo_trace (o : Info) (s : State) : (latchInfo o s).trace = s.trace := rfl
@[simp] theorem latchInfo_calls (o : Info) (s : State) : (latchInfo o s).calls = s.calls := rfl
@[simp] theorem latchInfo_now (o : Info) (s : State) : (latchInfo o s).now = s.now := rfl
@[simp] theorem latchInfo_mainMem (o : Info) (s : State) : (latchInfo o s).mainMem = s.mainMem := rfl
@[simp] theorem latchInfo_returns (o : Info) (s : State) : (latchInfo o s).returns = s.returns := rfl

@[simp] theorem promote_dm (t : Nat) (s : State) : (promote t s).dm = s.dm := rfl
@[simp] theorem promote_tw (t : Nat) (s : State) : (promote t s).tw = s.tw := rfl
@[simp] theorem promote_clip (t : Nat) (s : State) : (promote t s).clip = s.clip := rfl
@[simp] theorem promote_ofs (t : Nat) (s : State) : (promote t s).ofs = s.ofs := rfl
@[simp] theorem promote_msk (t : Nat) (s : State) : (promote t s).msk = s.msk := rfl
@[simp] theorem promote_dstate (t : Nat) (s : State) : (promote t s).dstate = s.dstate := rfl
@[simp] theorem promote_cbuf (t : Nat) (s : State) : (promote t s).cbuf = s.cbuf := rfl
@[simp] theorem promote_clen (t : Nat) (s : State) : (promote t s).clen = s.clen := rfl
@[simp] theorem promote_ctarget (t : Nat) (s : State) : (promote t s).ctarget = s.ctarget := rfl
@[simp] theorem promote_xkind (t : Nat) (s : State) : (promote t s).xkind = s.xkind := rfl
@[simp] theorem promote_img (t : Nat) (s : State) : (promote t s).img = s.img := rfl
@[simp] theorem promote_pline (t : Nat) (s : State) : (promote t s).pline = s.pline := rfl
@[simp] theorem promote_rd (t : Nat) (s : State) : (promote t s).rd = s.rd := rfl
@[simp] theorem promote_pend (t : Nat) (s : State) : (promote t s).pend = s.pend := rfl
@[simp] theorem promote_cur (t : Nat) (s : State) : (promote t s).cur = s.pend := rfl
@[simp] theorem promote_dmadir (t : Nat) (s : State) : (promote t s).dmadir = s.dmadir := rfl
@[simp] theorem promote_field (t : Nat) (s : State) : (promote t s).field = s.field := rfl
@[simp] theorem promote_vram (t : Nat) (s : State) : (promote t s).vram = s.vram := rfl
@[simp] theorem promote_tpc (t : Nat) (s : State) : (promote t s).tpc = s.tpc := rfl
@[simp] theorem promote_dirty (t : Nat) (s : State) : (promote t s).dirty = s.dirty := rfl
@[simp] theorem promote_pendingDirty (t : Nat) (s : State) : (promote t s).pendingDirty = false := rfl
@[simp] theorem promote_tAny (t : Nat) (s : State) : (promote t s).tAny = t := rfl
@[simp] theorem promote_tDirty (t : Nat) (s : State) : (promote t s).tDirty = t := rfl
@[simp] theorem promote_diagSemiPolyline (t : Nat) (s : State) : (promote t s).diagSemiPolyline = s.diagSemiPolyline := rfl
@[simp] theorem promote_diagMod16 (t : Nat) (s : State) : (promote t s).diagMod16 = s.diagMod16 := rfl
@[simp] theorem promote_lock (t : Nat) (s : State) : (promote t s).lock = s.lock := rfl
@[simp] theorem promote_trace (t : Nat) (s : State) : (promote t s).trace = s.trace ++ [.refresh s.pend] := rfl
@[simp] theorem promote_calls (t : Nat) (s : State) : (promote t s).calls = s.calls := rfl
@[simp] theorem promote_now (t : Nat) (s : State) : (promote t s).now = s.now := rfl
@[simp] theorem promote_mainMem (t : Nat) (s : State) : (promote t s).mainMem = s.mainMem := rfl
@[simp] theorem promote_returns (t : Nat) (s : State) : (promote t s).returns = s.returns := rfl

@[simp] theorem returning_dm (w : Word) (s : State) : (returning w s).dm = s.dm := rfl
@[simp] theorem returning_tw (w : Word) (s : State) : (returning w s).tw = s.tw := rfl
@[simp] theorem returning_clip (w : Word) (s : State) : (returning w s).clip = s.clip := rfl
@[simp] theorem returning_ofs (w : Word) (s : State) : (returning w s).ofs = s.ofs := rfl
@[simp] theorem returning_msk (w : Word) (s : State) : (returning w s).msk = s.msk := rfl
@[simp] theorem returning_dstate (w : Word) (s : State) : (returning w s).dstate = s.dstate := rfl
@[simp] theorem returning_cbuf (w : Word) (s : State) : (returning w s).cbuf = s.cbuf := rfl
@[simp] theorem returning_clen (w : Word) (s : State) : (returning w s).clen = s.clen := rfl
@[simp] theorem returning_ctarget (w : Word) (s : State) : (returning w s).ctarget = s.ctarget := rfl
@[simp] theorem returning_xkind (w : Word) (s : State) : (returning w s).xkind = s.xkind := rfl
@[simp] theorem returning_img (w : Word) (s : State) : (returning w s).img = s.img := rfl
@[simp] theorem returning_pline (w : Word) (s : State) : (returning w s).pline = s.pline := rfl
@[simp] theorem returning_rd (w : Word) (s : State) : (returning w s).rd = s.rd := rfl
@[simp] theorem returning_pend (w : Word) (s : State) : (returning w s).pend = s.pend := rfl
@[simp] theorem returning_cur (w : Word) (s : State) : (returning w s).cur = s.cur := rfl
@[simp] theorem returning_dmadir (w : Word) (s : State) : (returning w s).dmadir = s.dmadir := rfl
@[simp] theorem returning_field (w : Word) (s : State) : (returning w s).field = s.field := rfl
@[simp] theorem returning_vram (w : Word) (s : State) : (returning w s).vram = s.vram := rfl
@[simp] theorem returning_tpc (w : Word) (s : State) : (returning w s).tpc = s.tpc := rfl
@[simp] theorem returning_dirty (w : Word) (s : State) : (returning w s).dirty = s.dirty := rfl
@[simp] theorem returning_pendingDirty (w : Word) (s : State) : (returning w s).pendingDirty = s.pendingDirty := rfl
@[simp] theorem returning_tAny (w : Word) (s : State) : (returning w s).tAny = s.tAny := rfl
@[simp] theorem returning_tDirty (w : Word) (s : State) : (returning w s).tDirty = s.tDirty := rfl
@[simp] theorem returning_diagSemiPolyline (w : Word) (s : State) : (returning w s).diagSemiPolyline = s.diagSemiPolyline := rfl
@[simp] theorem returning_diagMod16 (w : Word) (s : State) : (returning w s).diagMod16 = s.diagMod16 := rfl
@[simp] theorem returning_lock (w : Word) (s : State) : (returning w s).lock = s.lock := rfl
@[simp] theorem returning_trace (w : Word) (s : State) : (returning w s).trace = s.trace := rfl
@[simp] theorem returning_calls (w : Word) (s : State) : (returning w s).calls = s.calls := rfl
@[simp] theorem returning_now (w : Word) (s : State) : (returning w s).now = s.now := rfl
@[simp] theorem returning_mainMem (w : Word) (s : State) : (returning w s).mainMem = s.mainMem := rfl
@[simp] theorem returning_returns (w : Word) (s : State) : (returning w s).returns = s.returns ++ [w] := rfl

@[simp] theorem setDiag_dm (k : DiagKind) (s : State) : (setDiag k s).dm = s.dm := by cases k <;> rfl
@[simp] theorem setDiag_tw (k : DiagKind) (s : State) : (setDiag k s).tw = s.tw := by cases k <;> rfl
@[simp] theorem setDiag_clip (k : DiagKind) (s : State) : (setDiag k s).clip = s.clip := by cases k <;> rfl
@[simp] theorem setDiag_ofs (k : DiagKind) (s : State) : (setDiag k s).ofs = s.ofs := by cases k <;> rfl
@[simp] theorem setDiag_msk (k : DiagKind) (s : State) : (setDiag k s).msk = s.msk := by cases k <;> rfl
@[simp] theorem setDiag_dstate (k : DiagKind) (s : State) : (setDiag k s).dstate = s.dstate := by cases k <;> rfl
@[simp] theorem setDiag_cbuf (k : DiagKind) (s : State) : (setDiag k s).cbuf = s.cbuf := by cases k <;> rfl
@[simp] theorem setDiag_clen (k : DiagKind) (s : State) : (setDiag k s).clen = s.clen := by cases k <;> rfl
@[simp] theorem setDiag_ctarget (k : DiagKind) (s : State) : (setDiag k s).ctarget = s.ctarget := by cases k <;> rfl
@[simp] theorem setDiag_xkind (k : DiagKind) (s : State) : (setDiag k s).xkind = s.xkind := by cases k <;> rfl
@[simp] theorem setDiag_img (k : DiagKind) (s : State) : (setDiag k s).img = s.img := by cases k <;> rfl
@[simp] theorem setDiag_pline (k : DiagKind) (s : State) : (setDiag k s).pline = s.pline := by cases k <;> rfl
@[simp] theorem setDiag_rd (k : DiagKind) (s : State) : (setDiag k s).rd = s.rd := by cases k <;> rfl
@[simp] theorem setDiag_pend (k : DiagKind) (s : State) : (setDiag k s).pend = s.pend := by cases k <;> rfl
@[simp] theorem setDiag_cur (k : DiagKind) (s : State) : (setDiag k s).cur = s.cur := by cases k <;> rfl
@[simp] theorem setDiag_dmadir (k : DiagKind) (s : State) : (setDiag k s).dmadir = s.dmadir := by cases k <;> rfl
@[simp] theorem setDiag_field (k : DiagKind) (s : State) : (setDiag k s).field = s.field := by cases k <;> rfl
@[simp] theorem setDiag_vram (k : DiagKind) (s : State) : (setDiag k s).vram = s.vram := by cases k <;> rfl
@[simp] theorem setDiag_tpc (k : DiagKind) (s : State) : (setDiag k s).tpc = s.tpc := by cases k <;> rfl
@[simp] theorem setDiag_dirty (k : DiagKind) (s : State) : (setDiag k s).dirty = s.dirty := by cases k <;> rfl
@[simp] theorem setDiag_pendingDirty (k : DiagKind) (s : State) : (setDiag k s).pendingDirty = s.pendingDirty := by cases k <;> rfl
@[simp] theorem setDiag_tAny (k : DiagKind) (s : State) : (setDiag k s).tAny = s.tAny := by cases k <;> rfl
@[simp] theorem setDiag_tDirty (k : DiagKind) (s : State) : (setDiag k s).tDirty = s.tDirty := by cases k <;> rfl
@[simp] theorem setDiag_lock (k : DiagKind) (s : State) : (setDiag k s).lock = s.lock := by cases k <;> rfl
@[simp] theorem setDiag_trace (k : DiagKind) (s : State) : (setDiag k s).trace = s.trace := by cases k <;> rfl
@[simp] theorem setDiag_calls (k : DiagKind) (s : State) : (setDiag k s).calls = s.calls := by cases k <;> rfl
@[simp] theorem setDiag_now (k : DiagKind) (s : State) : (setDiag k s).now = s.now := by cases k <;> rfl
@[simp] theorem setDiag_mainMem (k : DiagKind) (s : State) : (setDiag k s).mainMem = s.mainMem := by cases k <;> rfl
@[simp] theorem setDiag_returns (k : DiagKind) (s : State) : (setDiag k s).returns = s.returns := by cases k <;> rfl

@[simp] theorem raiseDiag_dm (k : DiagKind) (s : State) : (raiseDiag k s).dm = s.dm := by unfold raiseDiag; split <;> simp
@[simp] theorem raiseDiag_tw (k : DiagKind) (s : State) : (raiseDiag k s).tw = s.tw := by unfold raiseDiag; split <;> simp
@[simp] theorem raiseDiag_clip (k : DiagKind) (s : State) : (raiseDiag k s).clip = s.clip := by unfold raiseDiag; split <;> simp
@[simp] theorem raiseDiag_ofs (k : DiagKind) (s : State) : (raiseDiag k s).ofs = s.ofs := by unfold raiseDiag; split <;> simp
@[simp] theorem raiseDiag_msk (k : DiagKind) (s : State) : (raiseDiag k s).msk = s.msk := by unfold raiseDiag; split <;> simp
@[simp] theorem raiseDiag_dstate (k : DiagKind) (s : State) : (raiseDiag k s).dstate = s.dstate := by unfold raiseDiag; split <;> simp
@[simp] theorem raiseDiag_cbuf (k : DiagKind) (s : State) : (raiseDiag k s).cbuf = s.cbuf := by unfold raiseDiag; split <;> simp
@[simp] theorem raiseDiag_clen (k : DiagKind) (s : State) : (raiseDiag k s).clen = s.clen := by unfold raiseDiag; split <;> simp
@[simp] theorem raiseDiag_ctarget (k : DiagKind) (s : State) : (raiseDiag k s).ctarget = s.ctarget := by unfold raiseDiag; split <;> simp
@[simp] theorem raiseDiag_xkind (k : DiagKind) (s : State) : (raiseDiag k s).xkind = s.xkind := by unfold raiseDiag; split <;> simp
@[simp] theorem raiseDiag_img (k : DiagKind) (s : State) : (raiseDiag k s).img = s.img := by unfold raiseDiag; split <;> simp
@[simp] theorem raiseDiag_pline (k : DiagKind) (s : State) : (raiseDiag k s).pline = s.pline := by unfold raiseDiag; split <;> simp
@[simp] theorem raiseDiag_rd (k : DiagKind) (s : State) : (raiseDiag k s).rd = s.rd := by unfold raiseDiag; split <;> simp
@[simp] theorem raiseDiag_pend (k : DiagKind) (s : State) : (raiseDiag k s).pend = s.pend := by unfold raiseDiag; split <;> simp
@[simp] theorem raiseDiag_cur (k : DiagKind) (s : State) : (raiseDiag k s).cur = s.cur := by unfold raiseDiag; split <;> simp
@[simp] theorem raiseDiag_dmadir (k : DiagKind) (s : State) : (raiseDiag k s).dmadir = s.dmadir := by unfold raiseDiag; split <;> simp
@[simp] theorem raiseDiag_field (k : DiagKind) (s : State) : (raiseDiag k s).field = s.field := by unfold raiseDiag; split <;> simp
@[simp] theorem raiseDiag_vram (k : DiagKind) (s : State) : (raiseDiag k s).vram = s.vram := by unfold raiseDiag; split <;> simp
@[simp] theorem raiseDiag_tpc (k : DiagKind) (s : State) : (raiseDiag k s).tpc = s.tpc := by unfold raiseDiag; split <;> simp
@[simp] theorem raiseDiag_dirty (k : DiagKind) (s : State) : (raiseDiag k s).dirty = s.dirty := by unfold raiseDiag; split <;> simp
@[simp] theorem raiseDiag_pendingDirty (k : DiagKind) (s : State) : (raiseDiag k s).pendingDirty = s.pendingDirty := by unfold raiseDiag; split <;> simp
@[simp] theorem raiseDiag_tAny (k : DiagKind) (s : State) : (raiseDiag k s).tAny = s.tAny := by unfold raiseDiag; split <;> simp
@[simp] theorem raiseDiag_tDirty (k : DiagKind) (s : State) : (raiseDiag k s).tDirty = s.tDirty := by unfold raiseDiag; split <;> simp
@[simp] theorem raiseDiag_lock (k : DiagKind) (s : State) : (raiseDiag k s).lock = s.lock := by unfold raiseDiag; split <;> simp
@[simp] theorem raiseDiag_calls (k : DiagKind) (s : State) : (raiseDiag k s).calls = s.calls := by unfold raiseDiag; split <;> simp
@[simp] theorem raiseDiag_now (k : DiagKind) (s : State) : (raiseDiag k s).now = s.now := by unfold raiseDiag; split <;> simp
@[simp] theorem raiseDiag_mainMem (k : DiagKind) (s : State) : (raiseDiag k s).mainMem = s.mainMem := by unfold raiseDiag; split <;> simp
@[simp] theorem raiseDiag_returns (k : DiagKind) (s : State) : (raiseDiag k s).returns = s.returns := by unfold raiseDiag; split <;> simp

@[simp] theorem decodePage_dm (p : BitVec 5) (e : Bool) (s : State) : (decodePage p e s).dm = s.dm := by unfold decodePage; split <;> rfl
@[simp] theorem decodePage_tw (p : BitVec 5) (e : Bool) (s : State) : (decodePage p e s).tw = s.tw := by unfold decodePage; split <;> rfl
@[simp] theorem decodePage_clip (p : BitVec 5) (e : Bool) (s : State) : (decodePage p e s).clip = s.clip := by unfold decodePage; split <;> rfl
@[simp] theorem decodePage_ofs (p : BitVec 5) (e : Bool) (s : State) : (decodePage p e s).ofs = s.ofs := by unfold decodePage; split <;> rfl
@[simp] theorem decodePage_msk (p : BitVec 5) (e : Bool) (s : State) : (decodePage p e s).msk = s.msk := by unfold decodePage; split <;> rfl
@[simp] theorem decodePage_dstate (p : BitVec 5) (e : Bool) (s : State) : (decodePage p e s).dstate = s.dstate := by unfold decodePage; split <;> rfl
@[simp] theorem decodePage_cbuf (p : BitVec 5) (e : Bool) (s : State) : (decodePage p e s).cbuf = s.cbuf := by unfold decodePage; split <;> rfl
@[simp] theorem decodePage_clen (p : BitVec 5) (e : Bool) (s : State) : (decodePage p e s).clen = s.clen := by unfold decodePage; split <;> rfl
@[simp] theorem decodePage_ctarget (p : BitVec 5) (e : Bool) (s : State) : (decodePage p e s).ctarget = s.ctarget := by unfold decodePage; split <;> rfl
@[simp] theorem decodePage_xkind (p : BitVec 5) (e : Bool) (s : State) : (decodePage p e s).xkind = s.xkind := by unfold decodePage; split <;> rfl
@[simp] theorem decodePage_img (p : BitVec 5) (e : Bool) (s : State) : (decodePage p e s).img = s.img := by unfold decodePage; split <;> rfl
@[simp] theorem decodePage_pline (p : BitVec 5) (e : Bool) (s : State) : (decodePage p e s).pline = s.pline := by unfold decodePage; split <;> rfl
@[simp] theorem decodePage_rd (p : BitVec 5) (e : Bool) (s : State) : (decodePage p e s).rd = s.rd := by unfold decodePage; split <;> rfl
@[simp] theorem decodePage_pend (p : BitVec 5) (e : Bool) (s : State) : (decodePage p e s).pend = s.pend := by unfold decodePage; split <;> rfl
@[simp] theorem decodePage_cur (p : BitVec 5) (e : Bool) (s : State) : (decodePage p e s).cur = s.cur := by unfold decodePage; split <;> rfl
@[simp] theorem decodePage_dmadir (p : BitVec 5) (e : Bool) (s : State) : (decodePage p e s).dmadir = s.dmadir := by unfold decodePage; split <;> rfl
@[simp] theorem decodePage_field (p : BitVec 5) (e : Bool) (s : State) : (decodePage p e s).field = s.field := by unfold decodePage; split <;> rfl
@[simp] theorem decodePage_vram (p : BitVec 5) (e : Bool) (s : State) : (decodePage p e s).vram = s.vram := by unfold decodePage; split <;> rfl
@[simp] theorem decodePage_dirty (p : BitVec 5) (e : Bool) (s : State) : (decodePage p e s).dirty = s.dirty := by unfold decodePage; split <;> rfl
@[simp] theorem decodePage_pendingDirty (p : BitVec 5) (e : Bool) (s : State) : (decodePage p e s).pendingDirty = s.pendingDirty := by unfold decodePage; split <;> rfl
@[simp] theorem decodePage_tAny (p : BitVec 5) (e : Bool) (s : State) : (decodePage p e s).tAny = s.tAny := by unfold decodePage; split <;> rfl
@[simp] theorem decodePage_tDirty (p : BitVec 5) (e : Bool) (s : State) : (decodePage p e s).tDirty = s.tDirty := by unfold decodePage; split <;> rfl
@[simp] theorem decodePage_diagSemiPolyline (p : BitVec 5) (e : Bool) (s : State) : (decodePage p e s).diagSemiPolyline = s.diagSemiPolyline := by unfold decodePage; split <;> rfl
@[simp] theorem decodePage_diagMod16 (p : BitVec 5) (e : Bool) (s : State) : (decodePage p e s).diagMod16 = s.diagMod16 := by unfold decodePage; split <;> rfl
@[simp] theorem decodePage_lock (p : BitVec 5) (e : Bool) (s : State) : (decodePage p e s).lock = s.lock := by unfold decodePage; split <;> rfl
@[simp] theorem decodePage_trace (p : BitVec 5) (e : Bool) (s : State) : (decodePage p e s).trace = s.trace := by unfold decodePage; split <;> rfl
@[simp] theorem decodePage_calls (p : BitVec 5) (e : Bool) (s : State) : (decodePage p e s).calls = s.calls := by unfold decodePage; split <;> rfl
@[simp] theorem decodePage_now (p : BitVec 5) (e : Bool) (s : State) : (decodePage p e s).now = s.now := by unfold decodePage; split <;> rfl
@[simp] theorem decodePage_mainMem (p : BitVec 5) (e : Bool) (s : State) : (decodePage p e s).mainMem = s.mainMem := by unfold decodePage; split <;> rfl
@[simp] theorem decodePage_returns (p : BitVec 5) (e : Bool) (s : State) : (decodePage p e s).returns = s.returns := by unfold decodePage; split <;> rfl

@[simp] theorem beginTexture_dm (k : ClutSel) (s : State) : (beginTexture k s).dm = s.dm := by unfold beginTexture; split <;> simp
@[simp] theorem beginTexture_tw (k : ClutSel) (s : State) : (beginTexture k s).tw = s.tw := by unfold beginTexture; split <;> simp
@[simp] theorem beginTexture_clip (k : ClutSel) (s : State) : (beginTexture k s).clip = s.clip := by unfold beginTexture; split <;> simp
@[simp] theorem beginTexture_ofs (k : ClutSel) (s : State) : (beginTexture k s).ofs = s.ofs := by unfold beginTexture; split <;> simp
@[simp] theorem beginTexture_msk (k : ClutSel) (s : State) : (beginTexture k s).msk = s.msk := by unfold beginTexture; split <;> simp
@[simp] theorem beginTexture_dstate (k : ClutSel) (s : State) : (beginTexture k s).dstate = s.dstate := by unfold beginTexture; split <;> simp
@[simp] theorem beginTexture_cbuf (k : ClutSel) (s : State) : (beginTexture k s).cbuf = s.cbuf := by unfold beginTexture; split <;> simp
@[simp] theorem beginTexture_clen (k : ClutSel) (s : State) : (beginTexture k s).clen = s.clen := by unfold beginTexture; split <;> simp
@[simp] theorem beginTexture_ctarget (k : ClutSel) (s : State) : (beginTexture k s).ctarget = s.ctarget := by unfold beginTexture; split <;> simp
@[simp] theorem beginTexture_xkind (k : ClutSel) (s : State) : (beginTexture k s).xkind = s.xkind := by unfold beginTexture; split <;> simp
@[simp] theorem beginTexture_img (k : ClutSel) (s : State) : (beginTexture k s).img = s.img := by unfold beginTexture; split <;> simp
@[simp] theorem beginTexture_pline (k : ClutSel) (s : State) : (beginTexture k s).pline = s.pline := by unfold beginTexture; split <;> simp
@[simp] theorem beginTexture_rd (k : ClutSel) (s : State) : (beginTexture k s).rd = s.rd := by unfold beginTexture; split <;> simp
@[simp] theorem beginTexture_pend (k : ClutSel) (s : State) : (beginTexture k s).pend = s.pend := by unfold beginTexture; split <;> simp
@[simp] theorem beginTexture_cur (k : ClutSel) (s : State) : (beginTexture k s).cur = s.cur := by unfold beginTexture; split <;> simp
@[simp] theorem beginTexture_dmadir (k : ClutSel) (s : State) : (beginTexture k s).dmadir = s.dmadir := by unfold beginTexture; split <;> simp
@[simp] theorem beginTexture_field (k : ClutSel) (s : State) : (beginTexture k s).field = s.field := by unfold beginTexture; split <;> simp
@[simp] theorem beginTexture_dirty (k : ClutSel) (s : State) : (beginTexture k s).dirty = s.dirty := by unfold beginTexture; split <;> simp
@[simp] theorem beginTexture_pendingDirty (k : ClutSel) (s : State) : (beginTexture k s).pendingDirty = s.pendingDirty := by unfold beginTexture; split <;> simp
@[simp] theorem beginTexture_tAny (k : ClutSel) (s : State) : (beginTexture k s).tAny = s.tAny := by unfold beginTexture; split <;> simp
@[simp] theorem beginTexture_tDirty (k : ClutSel) (s : State) : (beginTexture k s).tDirty = s.tDirty := by unfold beginTexture; split <;> simp
@[simp] theorem beginTexture_diagSemiPolyline (k : ClutSel) (s : State) : (beginTexture k s).diagSemiPolyline = s.diagSemiPolyline := by unfold beginTexture; split <;> simp
@[simp] theorem beginTexture_diagMod16 (k : ClutSel) (s : State) : (beginTexture k s).diagMod16 = s.diagMod16 := by unfold beginTexture; split <;> simp
@[simp] theorem beginTexture_lock (k : ClutSel) (s : State) : (beginTexture k s).lock = s.lock := by unfold beginTexture; split <;> simp
@[simp] theorem beginTexture_trace (k : ClutSel) (s : State) : (beginTexture k s).trace = s.trace := by unfold beginTexture; split <;> simp
@[simp] theorem beginTexture_calls (k : ClutSel) (s : State) : (beginTexture k s).calls = s.calls := by unfold beginTexture; split <;> simp
@[simp] theorem beginTexture_now (k : ClutSel) (s : State) : (beginTexture k s).now = s.now := by unfold beginTexture; split <;> simp
@[simp] theorem beginTexture_mainMem (k : ClutSel) (s : State) : (beginTexture k s).mainMem = s.mainMem := by unfold beginTexture; split <;> simp
@[simp] theorem beginTexture_returns (k : ClutSel) (s : State) : (beginTexture k s).returns = s.returns := by unfold beginTexture; split <;> simp

/-- The configuration of the spec implements modulation of 16-bit textures: no diagnostic (R306). -/
@[simp] theorem mod16Check_eq (t r : Bool) (s : State) : mod16Check t r s = s := by simp [mod16Check, Config.mod16Implemented]

@[simp] theorem drawPrimitive_dm (t r m : Bool) (k : ClutSel) (ps : List Pixel) (s : State) : (drawPrimitive t r m k ps s).dm = s.dm := by unfold drawPrimitive; split <;> simp
@[simp] theorem drawPrimitive_tw (t r m : Bool) (k : ClutSel) (ps : List Pixel) (s : State) : (drawPrimitive t r m k ps s).tw = s.tw := by unfold drawPrimitive; split <;> simp
@[simp] theorem drawPrimitive_clip (t r m : Bool) (k : ClutSel) (ps : List Pixel) (s : State) : (drawPrimitive t r m k ps s).clip = s.clip := by unfold drawPrimitive; split <;> simp
@[simp] theorem drawPrimitive_ofs (t r m : Bool) (k : ClutSel) (ps : List Pixel) (s : State) : (drawPrimitive t r m k ps s).ofs = s.ofs := by unfold drawPrimitive; split <;> simp
@[simp] theorem drawPrimitive_msk (t r m : Bool) (k : ClutSel) (ps : List Pixel) (s : State) : (drawPrimitive t r m k ps s).msk = s.msk := by unfold drawPrimitive; split <;> simp
@[simp] theorem drawPrimitive_dstate (t r m : Bool) (k : ClutSel) (ps : List Pixel) (s : State) : (drawPrimitive t r m k ps s).dstate = s.dstate := by unfold drawPrimitive; split <;> simp
@[simp] theorem drawPrimitive_cbuf (t r m : Bool) (k : ClutSel) (ps : List Pixel) (s : State) : (drawPrimitive t r m k ps s).cbuf = s.cbuf := by unfold drawPrimitive; split <;> simp
@[simp] theorem drawPrimitive_clen (t r m : Bool) (k : ClutSel) (ps : List Pixel) (s : State) : (drawPrimitive t r m k ps s).clen = s.clen := by unfold drawPrimitive; split <;> simp
@[simp] theorem drawPrimitive_ctarget (t r m : Bool) (k : ClutSel) (ps : List Pixel) (s : State) : (drawPrimitive t r m k ps s).ctarget = s.ctarget := by unfold drawPrimitive; split <;> simp
@[simp] theorem drawPrimitive_xkind (t r m : Bool) (k : ClutSel) (ps : List Pixel) (s : State) : (drawPrimitive t r m k ps s).xkind = s.xkind := by unfold drawPrimitive; split <;> simp
@[simp] theorem drawPrimitive_img (t r m : Bool) (k : ClutSel) (ps : List Pixel) (s : State) : (drawPrimitive t r m k ps s).img = s.img := by unfold drawPrimitive; split <;> simp
@[simp] theorem drawPrimitive_pline (t r m : Bool) (k : ClutSel) (ps : List Pixel) (s : State) : (drawPrimitive t r m k ps s).pline = s.pline := by unfold drawPrimitive; split <;> simp
@[simp] theorem drawPrimitive_rd (t r m : Bool) (k : ClutSel) (ps : List Pixel) (s : State) : (drawPrimitive t r m k ps s).rd = s.rd := by unfold drawPrimitive; split <;> simp
@[simp] theorem drawPrimitive_pend (t r m : Bool) (k : ClutSel) (ps : List Pixel) (s : State) : (drawPrimitive t r m k ps s).pend = s.pend := by unfold drawPrimitive; split <;> simp
@[simp] theorem drawPrimitive_cur (t r m : Bool) (k : ClutSel) (ps : List Pixel) (s : State) : (drawPrimitive t r m k ps s).cur = s.cur := by unfold drawPrimitive; split <;> simp
@[simp] theorem drawPrimitive_dmadir (t r m : Bool) (k : ClutSel) (ps : List Pixel) (s : State) : (drawPrimitive t r m k ps s).dmadir = s.dmadir := by unfold drawPrimitive; split <;> simp
@[simp] theorem drawPrimitive_field (t r m : Bool) (k : ClutSel) (ps : List Pixel) (s : State) : (drawPrimitive t r m k ps s).field = s.field := by unfold drawPrimitive; split <;> simp
@[simp] theorem drawPrimitive_dirty (t r m : Bool) (k : ClutSel) (ps : List Pixel) (s : State) : (drawPrimitive t r m k ps s).dirty = s.dirty := by unfold drawPrimitive; split <;> simp
@[simp] theorem drawPrimitive_pendingDirty (t r m : Bool) (k : ClutSel) (ps : List Pixel) (s : State) : (drawPrimitive t r m k ps s).pendingDirty = s.pendingDirty := by unfold drawPrimitive; split <;> simp
@[simp] theorem drawPrimitive_tAny (t r m : Bool) (k : ClutSel) (ps : List Pixel) (s : State) : (drawPrimitive t r m k ps s).tAny = s.tAny := by unfold drawPrimitive; split <;> simp
@[simp] theorem drawPrimitive_tDirty (t r m : Bool) (k : ClutSel) (ps : List Pixel) (s : State) : (drawPrimitive t r m k ps s).tDirty = s.tDirty := by unfold drawPrimitive; split <;> simp
@[simp] theorem drawPrimitive_diagSemiPolyline (t r m : Bool) (k : ClutSel) (ps : List Pixel) (s : State) : (drawPrimitive t r m k ps s).diagSemiPolyline = s.diagSemiPolyline := by unfold drawPrimitive; split <;> simp
@[simp] theorem drawPrimitive_diagMod16 (t r m : Bool) (k : ClutSel) (ps : List Pixel) (s : State) : (drawPrimitive t r m k ps s).diagMod16 = s.diagMod16 := by unfold drawPrimitive; split <;> simp
@[simp] theorem drawPrimitive_lock (t r m : Bool) (k : ClutSel) (ps : List Pixel) (s : State) : (drawPrimitive t r m k ps s).lock = s.lock := by unfold drawPrimitive; split <;> simp
@[simp] theorem drawPrimitive_trace (t r m : Bool) (k : ClutSel) (ps : List Pixel) (s : State) : (drawPrimitive t r m k ps s).trace = s.trace := by unfold drawPrimitive; split <;> simp
@[simp] theorem drawPrimitive_calls (t r m : Bool) (k : ClutSel) (ps : List Pixel) (s : State) : (drawPrimitive t r m k ps s).calls = s.calls := by unfold drawPrimitive; split <;> simp
@[simp] theorem drawPrimitive_now (t r m : Bool) (k : ClutSel) (ps : List Pixel) (s : State) : (drawPrimitive t r m k ps s).now = s.now := by unfold drawPrimitive; split <;> simp
@[simp] theorem drawPrimitive_mainMem (t r m : Bool) (k : ClutSel) (ps : List Pixel) (s : State) : (drawPrimitive t r m k ps s).mainMem = s.mainMem := by unfold drawPrimitive; split <;> simp
@[simp] theorem drawPrimitive_returns (t r m : Bool) (k : ClutSel) (ps : List Pixel) (s : State) : (drawPrimitive t r m k ps s).returns = s.returns := by unfold drawPrimitive; split <;> simp

@[simp] theorem reportIfAny_dm (r : Rect) (s : State) : (reportIfAny r s).dm = s.dm := by unfold reportIfAny; split <;> simp
@[simp] theorem reportIfAny_tw (r : Rect) (s : State) : (reportIfAny r s).tw = s.tw := by unfold reportIfAny; split <;> simp
@[simp] theorem reportIfAny_clip (r : Rect) (s : State) : (reportIfAny r s).clip = s.clip := by unfold reportIfAny; split <;> simp
@[simp] theorem reportIfAny_ofs (r : Rect) (s : State) : (reportIfAny r s).ofs = s.ofs := by unfold reportIfAny; split <;> simp
@[simp] theorem reportIfAny_msk (r : Rect) (s : State) : (reportIfAny r s).msk = s.msk := by unfold reportIfAny; split <;> simp
@[simp] theorem reportIfAny_dstate (r : Rect) (s : State) : (reportIfAny r s).dstate = s.dstate := by unfold reportIfAny; split <;> simp
@[simp] theorem reportIfAny_cbuf (r : Rect) (s : State) : (reportIfAny r s).cbuf = s.cbuf := by unfold reportIfAny; split <;> simp
@[simp] theorem reportIfAny_clen (r : Rect) (s : State) : (reportIfAny r s).clen = s.clen := by unfold reportIfAny; split <;> simp
@[simp] theorem reportIfAny_ctarget (r : Rect) (s : State) : (reportIfAny r s).ctarget = s.ctarget := by unfold reportIfAny; split <;> simp
@[simp] theorem reportIfAny_xkind (r : Rect) (s : State) : (reportIfAny r s).xkind = s.xkind := by unfold reportIfAny; split <;> simp
@[simp] theorem reportIfAny_img (r : Rect) (s : State) : (reportIfAny r s).img = s.img := by unfold reportIfAny; split <;> simp
@[simp] theorem reportIfAny_pline (r : Rect) (s : State) : (reportIfAny r s).pline = s.pline := by unfold reportIfAny; split <;> simp
@[simp] theorem reportIfAny_rd (r : Rect) (s : State) : (reportIfAny r s).rd = s.rd := by unfold reportIfAny; split <;> simp
@[simp] theorem reportIfAny_pend (r : Rect) (s : State) : (reportIfAny r s).pend = s.pend := by unfold reportIfAny; split <;> simp
@[simp] theorem reportIfAny_cur (r : Rect) (s : State) : (reportIfAny r s).cur = s.cur := by unfold reportIfAny; split <;> simp
@[simp] theorem reportIfAny_dmadir (r : Rect) (s : State) : (reportIfAny r s).dmadir = s.dmadir := by unfold reportIfAny; split <;> simp
@[simp] theorem reportIfAny_field (r : Rect) (s : State) : (reportIfAny r s).field = s.field := by unfold reportIfAny; split <;> simp
@[simp] theorem reportIfAny_pendingDirty (r : Rect) (s : State) : (reportIfAny r s).pendingDirty = s.pendingDirty := by unfold reportIfAny; split <;> simp
@[simp] theorem reportIfAny_tAny (r : Rect) (s : State) : (reportIfAny r s).tAny = s.tAny := by unfold reportIfAny; split <;> simp
@[simp] theorem reportIfAny_tDirty (r : Rect) (s : State) : (reportIfAny r s).tDirty = s.tDirty := by unfold reportIfAny; split <;> simp
@[simp] theorem reportIfAny_diagSemiPolyline (r : Rect) (s : State) : (reportIfAny r s).diagSemiPolyline = s.diagSemiPolyline := by unfold reportIfAny; split <;> simp
@[simp] theorem reportIfAny_diagMod16 (r : Rect) (s : State) : (reportIfAny r s).diagMod16 = s.diagMod16 := by unfold reportIfAny; split <;> simp
@[simp] theorem reportIfAny_lock (r : Rect) (s : State) : (reportIfAny r s).lock = s.lock := by unfold reportIfAny; split <;> simp
@[simp] theorem reportIfAny_trace (r : Rect) (s : State) : (reportIfAny r s).trace = s.trace := by unfold reportIfAny; split <;> simp
@[simp] theorem reportIfAny_calls (r : Rect) (s : State) : (reportIfAny r s).calls = s.calls := by unfold reportIfAny; split <;> simp
@[simp] theorem reportIfAny_now (r : Rect) (s : State) : (reportIfAny r s).now = s.now := by unfold reportIfAny; split <;> simp
@[simp] theorem reportIfAny_mainMem (r : Rect) (s : State) : (reportIfAny r s).mainMem = s.mainMem := by unfold reportIfAny; split <;> simp
@[simp] theorem reportIfAny_returns (r : Rect) (s : State) : (reportIfAny r s).returns = s.returns := by unfold reportIfAny; split <;> simp

@[simp] theorem writeMode_tw (c : PolyCmd) (s : State) : (c.writeMode s).tw = s.tw := by unfold PolyCmd.writeMode; split <;> rfl
@[simp] theorem writeMode_clip (c : PolyCmd) (s : State) : (c.writeMode s).clip = s.clip := by unfold PolyCmd.writeMode; split <;> rfl
@[simp] theorem writeMode_ofs (c : PolyCmd) (s : State) : (c.writeMode s).ofs = s.ofs := by unfold PolyCmd.writeMode; split <;> rfl
@[simp] theorem writeMode_msk (c : PolyCmd) (s : State) : (c.writeMode s).msk = s.msk := by unfold PolyCmd.writeMode; split <;> rfl
@[simp] theorem writeMode_dstate (c : PolyCmd) (s : State) : (c.writeMode s).dstate = s.dstate := by unfold PolyCmd.writeMode; split <;> rfl
@[simp] theorem writeMode_cbuf (c : PolyCmd) (s : State) : (c.writeMode s).cbuf = s.cbuf := by unfold PolyCmd.writeMode; split <;> rfl
@[simp] theorem writeMode_clen (c : PolyCmd) (s : State) : (c.writeMode s).clen = s.clen := by unfold PolyCmd.writeMode; split <;> rfl
@[simp] theorem writeMode_ctarget (c : PolyCmd) (s : State) : (c.writeMode s).ctarget = s.ctarget := by unfold PolyCmd.writeMode; split <;> rfl
@[simp] theorem writeMode_xkind (c : PolyCmd) (s : State) : (c.writeMode s).xkind = s.xkind := by unfold PolyCmd.writeMode; split <;> rfl
@[simp] theorem writeMode_img (c : PolyCmd) (s : State) : (c.writeMode s).img = s.img := by unfold PolyCmd.writeMode; split <;> rfl
@[simp] theorem writeMode_pline (c : PolyCmd) (s : State) : (c.writeMode s).pline = s.pline := by unfold PolyCmd.writeMode; split <;> rfl
@[simp] theorem writeMode_rd (c : PolyCmd) (s : State) : (c.writeMode s).rd = s.rd := by unfold PolyCmd.writeMode; split <;> rfl
@[simp] theorem writeMode_pend (c : PolyCmd) (s : State) : (c.writeMode s).pend = s.pend := by unfold PolyCmd.writeMode; split <;> rfl
@[simp] theorem writeMode_cur (c : PolyCmd) (s : State) : (c.writeMode s).cur = s.cur := by unfold PolyCmd.writeMode; split <;> rfl
@[simp] theorem writeMode_dmadir (c : PolyCmd) (s : State) : (c.writeMode s).dmadir = s.dmadir := by unfold PolyCmd.writeMode; split <;> rfl
@[simp] theorem writeMode_field (c : PolyCmd) (s : State) : (c.writeMode s).field = s.field := by unfold PolyCmd.writeMode; split <;> rfl
@[simp] theorem writeMode_vram (c : PolyCmd) (s : State) : (c.writeMode s).vram = s.vram := by unfold PolyCmd.writeMode; split <;> rfl
@[simp] theorem writeMode_tpc (c : PolyCmd) (s : State) : (c.writeMode s).tpc = s.tpc := by unfold PolyCmd.writeMode; split <;> rfl
@[simp] theorem writeMode_dirty (c : PolyCmd) (s : State) : (c.writeMode s).dirty = s.dirty := by unfold PolyCmd.writeMode; split <;> rfl
@[simp] theorem writeMode_pendingDirty (c : PolyCmd) (s : State) : (c.writeMode s).pendingDirty = s.pendingDirty := by unfold PolyCmd.writeMode; split <;> rfl
@[simp] theorem writeMode_tAny (c : PolyCmd) (s : State) : (c.writeMode s).tAny = s.tAny := by unfold PolyCmd.writeMode; split <;> rfl
@[simp] theorem writeMode_tDirty (c : PolyCmd) (s : State) : (c.writeMode s).tDirty = s.tDirty := by unfold PolyCmd.writeMode; split <;> rfl
@[simp] theorem writeMode_diagSemiPolyline (c : PolyCmd) (s : State) : (c.writeMode s).diagSemiPolyline = s.diagSemiPolyline := by unfold PolyCmd.writeMode; split <;> rfl
@[simp] theorem writeMode_diagMod16 (c : PolyCmd) (s : State) : (c.writeMode s).diagMod16 = s.diagMod16 := by unfold PolyCmd.writeMode; split <;> rfl
@[simp] theorem writeMode_lock (c : PolyCmd) (s : State) : (c.writeMode s).lock = s.lock := by unfold PolyCmd.writeMode; split <;> rfl
@[simp] theorem writeMode_trace (c : PolyCmd) (s : State) : (c.writeMode s).trace = s.trace := by unfold PolyCmd.writeMode; split <;> rfl
@[simp] theorem writeMode_calls (c : PolyCmd) (s : State) : (c.writeMode s).calls = s.calls := by unfold PolyCmd.writeMode; split <;> rfl
@[simp] theorem writeMode_now (c : PolyCmd) (s : State) : (c.writeMode s).now = s.now := by unfold PolyCmd.writeMode; split <;> rfl
@[simp] theorem writeMode_mainMem (c : PolyCmd) (s : State) : (c.writeMode s).mainMem = s.mainMem := by unfold PolyCmd.writeMode; split <;> rfl
@[simp] theorem writeMode_returns (c : PolyCmd) (s : State) : (c.writeMode s).returns = s.returns := by unfold PolyCmd.writeMode; split <;> rfl

@[simp] theorem segment_dm (p q : Int × Int) (c d : Rgb) (m : Bool) (s : State) : (segment p q c d m s).dm = s.dm := by unfold segment; split <;> simp
@[simp] theorem segment_tw (p q : Int × Int) (c d : Rgb) (m : Bool) (s : State) : (segment p q c d m s).tw = s.tw := by unfold segment; split <;> simp
@[simp] theorem segment_clip (p q : Int × Int) (c d : Rgb) (m : Bool) (s : State) : (segment p q c d m s).clip = s.clip := by unfold segment; split <;> simp
@[simp] theorem segment_ofs (p q : Int × Int) (c d : Rgb) (m : Bool) (s : State) : (segment p q c d m s).ofs = s.ofs := by unfold segment; split <;> simp
@[simp] theorem segment_msk (p q : Int × Int) (c d : Rgb) (m : Bool) (s : State) : (segment p q c d m s).msk = s.msk := by unfold segment; split <;> simp
@[simp] theorem segment_dstate (p q : Int × Int) (c d : Rgb) (m : Bool) (s : State) : (segment p q c d m s).dstate = s.dstate := by unfold segment; split <;> simp
@[simp] theorem segment_cbuf (p q : Int × Int) (c d : Rgb) (m : Bool) (s : State) : (segment p q c d m s).cbuf = s.cbuf := by unfold segment; split <;> simp
@[simp] theorem segment_clen (p q : Int × Int) (c d : Rgb) (m : Bool) (s : State) : (segment p q c d m s).clen = s.clen := by unfold segment; split <;> simp
@[simp] theorem segment_ctarget (p q : Int × Int) (c d : Rgb) (m : Bool) (s : State) : (segment p q c d m s).ctarget = s.ctarget := by unfold segment; split <;> simp
@[simp] theorem segment_xkind (p q : Int × Int) (c d : Rgb) (m : Bool) (s : State) : (segment p q c d m s).xkind = s.xkind := by unfold segment; split <;> simp
@[simp] theorem segment_img (p q : Int × Int) (c d : Rgb) (m : Bool) (s : State) : (segment p q c d m s).img = s.img := by unfold segment; split <;> simp
@[simp] theorem segment_pline (p q : Int × Int) (c d : Rgb) (m : Bool) (s : State) : (segment p q c d m s).pline = s.pline := by unfold segment; split <;> simp
@[simp] theorem segment_rd (p q : Int × Int) (c d : Rgb) (m : Bool) (s : State) : (segment p q c d m s).rd = s.rd := by unfold segment; split <;> simp
@[simp] theorem segment_pend (p q : Int × Int) (c d : Rgb) (m : Bool) (s : State) : (segment p q c d m s).pend = s.pend := by unfold segment; split <;> simp
@[simp] theorem segment_cur (p q : Int × Int) (c d : Rgb) (m : Bool) (s : State) : (segment p q c d m s).cur = s.cur := by unfold segment; split <;> simp
@[simp] theorem segment_dmadir (p q : Int × Int) (c d : Rgb) (m : Bool) (s : State) : (segment p q c d m s).dmadir = s.dmadir := by unfold segment; split <;> simp
@[simp] theorem segment_field (p q : Int × Int) (c d : Rgb) (m : Bool) (s : State) : (segment p q c d m s).field = s.field := by unfold segment; split <;> simp
@[simp] theorem segment_pendingDirty (p q : Int × Int) (c d : Rgb) (m : Bool) (s : State) : (segment p q c d m s).pendingDirty = s.pendingDirty := by unfold segment; split <;> simp
@[simp] theorem segment_tAny (p q : Int × Int) (c d : Rgb) (m : Bool) (s : State) : (segment p q c d m s).tAny = s.tAny := by unfold segment; split <;> simp
@[simp] theorem segment_tDirty (p q : Int × Int) (c d : Rgb) (m : Bool) (s : State) : (segment p q c d m s).tDirty = s.tDirty := by unfold segment; split <;> simp
@[simp] theorem segment_diagSemiPolyline (p q : Int × Int) (c d : Rgb) (m : Bool) (s : State) : (segment p q c d m s).diagSemiPolyline = s.diagSemiPolyline := by unfold segment; split <;> simp
@[simp] theorem segment_diagMod16 (p q : Int × Int) (c d : Rgb) (m : Bool) (s : State) : (segment p q c d m s).diagMod16 = s.diagMod16 := by unfold segment; split <;> simp
@[simp] theorem segment_lock (p q : Int × Int) (c d : Rgb) (m : Bool) (s : State) : (segment p q c d m s).lock = s.lock := by unfold segment; split <;> simp
@[simp] theorem segment_trace (p q : Int × Int) (c d : Rgb) (m : Bool) (s : State) : (segment p q c d m s).trace = s.trace := by unfold segment; split <;> simp
@[simp] theorem segment_calls (p q : Int × Int) (c d : Rgb) (m : Bool) (s : State) : (segment p q c d m s).calls = s.calls := by unfold segment; split <;> simp
@[simp] theorem segment_now (p q : Int × Int) (c d : Rgb) (m : Bool) (s : State) : (segment p q c d m s).now = s.now := by unfold segment; split <;> simp
@[simp] theorem segment_mainMem (p q : Int × Int) (c d : Rgb) (m : Bool) (s : State) : (segment p q c d m s).mainMem = s.mainMem := by unfold segment; split <;> simp
@[simp] theorem segment_returns (p q : Int × Int) (c d : Rgb) (m : Bool) (s : State) : (segment p q c d m s).returns = s.returns := by unfold segment; split <;> simp

@[simp] theorem formatSwitch_dm (n : Nat) (s : State) : (formatSwitch n s).dm = s.dm := by unfold formatSwitch; split <;> simp
@[simp] theorem formatSwitch_tw (n : Nat) (s : State) : (formatSwitch n s).tw = s.tw := by unfold formatSwitch; split <;> simp
@[simp] theorem formatSwitch_clip (n : Nat) (s : State) : (formatSwitch n s).clip = s.clip := by unfold formatSwitch; split <;> simp
@[simp] theorem formatSwitch_ofs (n : Nat) (s : State) : (formatSwitch n s).ofs = s.ofs := by unfold formatSwitch; split <;> simp
@[simp] theorem formatSwitch_msk (n : Nat) (s : State) : (formatSwitch n s).msk = s.msk := by unfold formatSwitch; split <;> simp
@[simp] theorem formatSwitch_dstate (n : Nat) (s : State) : (formatSwitch n s).dstate = s.dstate := by unfold formatSwitch; split <;> simp
@[simp] theorem formatSwitch_cbuf (n : Nat) (s : State) : (formatSwitch n s).cbuf = s.cbuf := by unfold formatSwitch; split <;> simp
@[simp] theorem formatSwitch_clen (n : Nat) (s : State) : (formatSwitch n s).clen = s.clen := by unfold formatSwitch; split <;> simp
@[simp] theorem formatSwitch_ctarget (n : Nat) (s : State) : (formatSwitch n s).ctarget = s.ctarget := by unfold formatSwitch; split <;> simp
@[simp] theorem formatSwitch_xkind (n : Nat) (s : State) : (formatSwitch n s).xkind = s.xkind := by unfold formatSwitch; split <;> simp
@[simp] theorem formatSwitch_img (n : Nat) (s : State) : (formatSwitch n s).img = s.img := by unfold formatSwitch; split <;> simp
@[simp] theorem formatSwitch_pline (n : Nat) (s : State) : (formatSwitch n s).pline = s.pline := by unfold formatSwitch; split <;> simp
@[simp] theorem formatSwitch_rd (n : Nat) (s : State) : (formatSwitch n s).rd = s.rd := by unfold formatSwitch; split <;> simp
@[simp] theorem formatSwitch_pend (n : Nat) (s : State) : (formatSwitch n s).pend = s.pend := by unfold formatSwitch; split <;> simp
@[simp] theorem formatSwitch_cur (n : Nat) (s : State) : (formatSwitch n s).cur = s.cur := by unfold formatSwitch; split <;> simp
@[simp] theorem formatSwitch_dmadir (n : Nat) (s : State) : (formatSwitch n s).dmadir = s.dmadir := by unfold formatSwitch; split <;> simp
@[simp] theorem formatSwitch_field (n : Nat) (s : State) : (formatSwitch n s).field = s.field := by unfold formatSwitch; split <;> simp
@[simp] theorem formatSwitch_dirty (n : Nat) (s : State) : (formatSwitch n s).dirty = s.dirty := by unfold formatSwitch; split <;> simp
@[simp] theorem formatSwitch_pendingDirty (n : Nat) (s : State) : (formatSwitch n s).pendingDirty = s.pendingDirty := by unfold formatSwitch; split <;> simp
@[simp] theorem formatSwitch_tAny (n : Nat) (s : State) : (formatSwitch n s).tAny = s.tAny := by unfold formatSwitch; split <;> simp
@[simp] theorem formatSwitch_tDirty (n : Nat) (s : State) : (formatSwitch n s).tDirty = s.tDirty := by unfold formatSwitch; split <;> simp
@[simp] theorem formatSwitch_diagSemiPolyline (n : Nat) (s : State) : (formatSwitch n s).diagSemiPolyline = s.diagSemiPolyline := by unfold formatSwitch; split <;> simp
@[simp] theorem formatSwitch_diagMod16 (n : Nat) (s : State) : (formatSwitch n s).diagMod16 = s.diagMod16 := by unfold formatSwitch; split <;> simp
@[simp] theorem formatSwitch_lock (n : Nat) (s : State) : (formatSwitch n s).lock = s.lock := by unfold formatSwitch; split <;> simp
@[simp] theorem formatSwitch_trace (n : Nat) (s : State) : (formatSwitch n s).trace = s.trace := by unfold formatSwitch; split <;> simp
@[simp] theorem formatSwitch_calls (n : Nat) (s : State) : (formatSwitch n s).calls = s.calls := by unfold formatSwitch; split <;> simp
@[simp] theorem formatSwitch_now (n : Nat) (s : State) : (formatSwitch n s).now = s.now := by unfold formatSwitch; split <;> simp
@[simp] theorem formatSwitch_mainMem (n : Nat) (s : State) : (formatSwitch n s).mainMem = s.mainMem := by unfold formatSwitch; split <;> simp
@[simp] theorem formatSwitch_returns (n : Nat) (s : State) : (formatSwitch n s).returns = s.returns := by unfold formatSwitch; split <;> simp

@[simp] theorem reportAborted_dm (s : State) : (reportAborted s).dm = s.dm := by unfold reportAborted; split <;> simp
@[simp] theorem reportAborted_tw (s : State) : (reportAborted s).tw = s.tw := by unfold reportAborted; split <;> simp
@[simp] theorem reportAborted_clip (s : State) : (reportAborted s).clip = s.clip := by unfold reportAborted; split <;> simp
@[simp] theorem reportAborted_ofs (s : State) : (reportAborted s).ofs = s.ofs := by unfold reportAborted; split <;> simp
@[simp] theorem reportAborted_msk (s : State) : (reportAborted s).msk = s.msk := by unfold reportAborted; split <;> simp
@[simp] theorem reportAborted_dstate (s : State) : (reportAborted s).dstate = s.dstate := by unfold reportAborted; split <;> simp
@[simp] theorem reportAborted_cbuf (s : State) : (reportAborted s).cbuf = s.cbuf := by unfold reportAborted; split <;> simp
@[simp] theorem reportAborted_clen (s : State) : (reportAborted s).clen = s.clen := by unfold reportAborted; split <;> simp
@[simp] theorem reportAborted_ctarget (s : State) : (reportAborted s).ctarget = s.ctarget := by unfold reportAborted; split <;> simp
@[simp] theorem reportAborted_xkind (s : State) : (reportAborted s).xkind = s.xkind := by unfold reportAborted; split <;> simp
@[simp] theorem reportAborted_img (s : State) : (reportAborted s).img = s.img := by unfold reportAborted; split <;> simp
@[simp] theorem reportAborted_pline (s : State) : (reportAborted s).pline = s.pline := by unfold reportAborted; split <;> simp
@[simp] theorem reportAborted_rd (s : State) : (reportAborted s).rd = s.rd := by unfold reportAborted; split <;> simp
@[simp] theorem reportAborted_pend (s : State) : (reportAborted s).pend = s.pend := by unfold reportAborted; split <;> simp
@[simp] theorem reportAborted_cur (s : State) : (reportAborted s).cur = s.cur := by unfold reportAborted; split <;> simp
@[simp] theorem reportAborted_dmadir (s : State) : (reportAborted s).dmadir = s.dmadir := by unfold reportAborted; split <;> simp
@[simp] theorem reportAborted_field (s : State) : (reportAborted s).field = s.field := by unfold reportAborted; split <;> simp
@[simp] theorem reportAborted_pendingDirty (s : State) : (reportAborted s).pendingDirty = s.pendingDirty := by unfold reportAborted; split <;> simp
@[simp] theorem reportAborted_tAny (s : State) : (reportAborted s).tAny = s.tAny := by unfold reportAborted; split <;> simp
@[simp] theorem reportAborted_tDirty (s : State) : (reportAborted s).tDirty = s.tDirty := by unfold reportAborted; split <;> simp
@[simp] theorem reportAborted_diagSemiPolyline (s : State) : (reportAborted s).diagSemiPolyline = s.diagSemiPolyline := by unfold reportAborted; split <;> simp
@[simp] theorem reportAborted_diagMod16 (s : State) : (reportAborted s).diagMod16 = s.diagMod16 := by unfold reportAborted; split <;> simp
@[simp] theorem reportAborted_lock (s : State) : (reportAborted s).lock = s.lock := by unfold reportAborted; split <;> simp
@[simp] theorem reportAborted_trace (s : State) : (reportAborted s).trace = s.trace := by unfold reportAborted; split <;> simp
@[simp] theorem reportAborted_calls (s : State) : (reportAborted s).calls = s.calls := by unfold reportAborted; split <;> simp
@[simp] theorem reportAborted_now (s : State) : (reportAborted s).now = s.now := by unfold reportAborted; split <;> simp
@[simp] theorem reportAborted_mainMem (s : State) : (reportAborted s).mainMem = s.mainMem := by unfold reportAborted; split <;> simp
@[simp] theorem reportAborted_returns (s : State) : (reportAborted s).returns = s.returns := by unfold reportAborted; split <;> simp

end Sys2Proof.Machine
end

