-- ==== Sys2Proof/Laws/Memory.lean ====
section
/-! SUPPORT. The laws of VRAM and main memory: a read after a write, everything else left alone, and the canonical
form kept by every memory operation. -/

namespace Sys2Proof.Machine

/-! ## The canonical form -/

theorem Memory.wf_iff {u : Option Byte} {n : Nat} {m : Memory} :
    Memory.wf u n m = true ↔ Sparse.Rising m ∧ ∀ c ∈ m, c.1 < n ∧ some c.2 ≠ u := by
  simp [Memory.wf]

theorem Memory.wf_nil (u : Option Byte) (n : Nat) : Memory.wf u n [] = true := by
  simp [Memory.wf, Sparse.Rising]

theorem Memory.wf_set {u : Option Byte} {n a : Nat} {b : Byte} {m : Memory} (h : Memory.wf u n m = true)
    (ha : a < n) (hb : some b ≠ u) : Memory.wf u n (Sparse.set a b m) = true := by
  rw [Memory.wf_iff] at h ⊢
  refine ⟨Sparse.rising_set h.1 a b, fun c hc => ?_⟩
  rcases Sparse.mem_set hc with rfl | hc
  · exact ⟨ha, hb⟩
  · exact h.2 c hc

theorem Memory.wf_erase {u : Option Byte} {n : Nat} {m : Memory} (h : Memory.wf u n m = true) (a : Nat) :
    Memory.wf u n (Sparse.erase a m) = true := by
  rw [Memory.wf_iff] at h ⊢
  exact ⟨Sparse.rising_erase h.1 a, fun c hc => h.2 c (Sparse.mem_erase hc)⟩

theorem vramSetByte_wf {n a : Nat} {m : Memory} (h : Memory.wf (some vramUnlisted) n m = true) (ha : a < n) (b : Byte) :
    Memory.wf (some vramUnlisted) n (vramSetByte m a b) = true := by
  unfold vramSetByte
  split
  · exact Memory.wf_erase h a
  · next hb => exact Memory.wf_set h ha (by simpa using hb)

/-! ## Bytes -/

/-- One byte of VRAM after a byte is written. -/
theorem vramByte_setByte (m : Memory) (a c : Nat) (b : Byte) :
    vramByte (vramSetByte m a b) c = if c = a then b else vramByte m c := by
  unfold vramByte vramSetByte
  by_cases hb : b = vramUnlisted
  · simp only [hb, if_true, Sparse.get?_erase]; split <;> simp
  · simp only [hb, if_false, Sparse.get?_set]; split <;> simp

/-! ## Cells -/

theorem cellIndex_lt (x y : Int) : cellIndex x y < 524288 := by
  unfold cellIndex
  have h1 := Int.emod_nonneg y (by decide : (512 : Int) ≠ 0)
  have h2 := Int.emod_lt_of_pos y (by decide : (0 : Int) < 512)
  have h3 := Int.emod_nonneg x (by decide : (1024 : Int) ≠ 0)
  have h4 := Int.emod_lt_of_pos x (by decide : (0 : Int) < 1024)
  omega

/-- Two coordinates name one cell exactly when they agree modulo the size of VRAM (R77). -/
theorem cellIndex_eq_iff (x y x' y' : Int) :
    cellIndex x y = cellIndex x' y' ↔ x % 1024 = x' % 1024 ∧ y % 512 = y' % 512 := by
  unfold cellIndex
  have h1 := Int.emod_nonneg y (by decide : (512 : Int) ≠ 0)
  have h2 := Int.emod_lt_of_pos y (by decide : (0 : Int) < 512)
  have h3 := Int.emod_nonneg x (by decide : (1024 : Int) ≠ 0)
  have h4 := Int.emod_lt_of_pos x (by decide : (0 : Int) < 1024)
  have h1' := Int.emod_nonneg y' (by decide : (512 : Int) ≠ 0)
  have h2' := Int.emod_lt_of_pos y' (by decide : (0 : Int) < 512)
  have h3' := Int.emod_nonneg x' (by decide : (1024 : Int) ≠ 0)
  have h4' := Int.emod_lt_of_pos x' (by decide : (0 : Int) < 1024)
  omega

/-- The number of a cell inside VRAM (R80). -/
theorem cellIndex_nat {x y : Nat} (hx : x < 1024) (hy : y < 512) : cellIndex x y = 1024 * y + x := by
  unfold cellIndex; omega

/-- One byte of VRAM after a cell is written. -/
theorem vramByte_setCell (m : Memory) (x y : Int) (p : BitVec 16) (a : Nat) :
    vramByte (setCell m x y p) a =
      if a = 2 * cellIndex x y then p.extractLsb' 0 8
      else if a = 2 * cellIndex x y + 1 then p.extractLsb' 8 8 else vramByte m a := by
  unfold setCell
  rw [vramByte_setByte, vramByte_setByte]
  by_cases h1 : a = 2 * cellIndex x y + 1
  · rw [if_pos h1, if_neg (by omega), if_pos h1]
  · rw [if_neg h1, if_neg h1]

theorem bytes_append (p : BitVec 16) : p.extractLsb' 8 8 ++ p.extractLsb' 0 8 = p := by
  ext i hi
  simp only [BitVec.getElem_append, BitVec.getElem_extractLsb']
  split
  · simp [hi]
  · next h => simp [show 8 + (i - 8) = i by omega, hi]

/-- The native view of a cell after a cell is written (R75). -/
theorem cellOf_setCell (m : Memory) (x y x' y' : Int) (p : BitVec 16) :
    cellOf (setCell m x y p) x' y' = if cellIndex x' y' = cellIndex x y then p else cellOf m x' y' := by
  unfold cellOf
  rw [vramByte_setCell, vramByte_setCell]
  by_cases h : cellIndex x' y' = cellIndex x y
  · rw [if_neg (by omega), if_pos (by omega), if_pos (by omega), if_pos h, bytes_append]
  · rw [if_neg (by omega), if_neg (by omega), if_neg (by omega), if_neg (by omega), if_neg h]

theorem setCell_wf {m : Memory} (h : Memory.wf (some vramUnlisted) vramBytes m = true) (x y : Int) (p : BitVec 16) :
    Memory.wf (some vramUnlisted) vramBytes (setCell m x y p) = true := by
  have := cellIndex_lt x y
  unfold setCell
  exact vramSetByte_wf (vramSetByte_wf h (by unfold vramBytes; omega) _) (by unfold vramBytes; omega) _

/-! ## VRAM -/

/-- `VramWrite` says everything it does: the native view (R75). -/
theorem Vram.read_write (v : Vram) (x y x' y' : Int) (p : BitVec 16) :
    (v.write x y p).read x' y' = if cellIndex x' y' = cellIndex x y then p else v.read x' y' :=
  cellOf_setCell ..

@[simp] theorem Vram.write_fmt (v : Vram) (x y : Int) (p : BitVec 16) : (v.write x y p).fmt = v.fmt := rfl
@[simp] theorem Vram.write_tags (v : Vram) (x y : Int) (p : BitVec 16) : (v.write x y p).tags = v.tags := rfl
@[simp] theorem Vram.write_native (v : Vram) (x y : Int) (p : BitVec 16) :
    (v.write x y p).native = setCell v.native x y p := rfl
@[simp] theorem Vram.write_flags (v : Vram) (x y : Int) (p : BitVec 16) :
    (v.write x y p).flags = Sparse.erase (cellIndex x y) v.flags := rfl

/-- The palette flags after a write: those of the written cell are cleared (R75). -/
theorem Vram.flagsAt_write (v : Vram) (x y x' y' : Int) (p : BitVec 16) :
    (v.write x y p).flagsAt x' y' = if cellIndex x' y' = cellIndex x y then noFlags else v.flagsAt x' y' := by
  simp only [Vram.flagsAt, Vram.write_flags, Sparse.get?_erase]; split <;> simp

/-- `MaskedWrite` leaves a cell alone, or writes it with the mask bit ORed in (R76). -/
theorem Vram.maskedWrite_cases (msk : MaskMode) (v : Vram) (x y : Int) (p : BitVec 16) :
    (msk.chk = true ∧ maskBit (v.read x y) = true ∧ v.maskedWrite msk x y p = v) ∨
      ((msk.chk = false ∨ maskBit (v.read x y) = false) ∧
        v.maskedWrite msk x y p = v.write x y (orMask p msk.set)) := by
  unfold Vram.maskedWrite
  cases h1 : msk.chk <;> cases h2 : maskBit (v.read x y) <;> simp

@[simp] theorem Vram.maskedWrite_fmt (msk : MaskMode) (v : Vram) (x y : Int) (p : BitVec 16) :
    (v.maskedWrite msk x y p).fmt = v.fmt := by unfold Vram.maskedWrite; split <;> rfl

@[simp] theorem Vram.setTag_native (v : Vram) (x y : Int) (t : BitVec 2) : (v.setTag x y t).native = v.native := by
  unfold Vram.setTag; split <;> (try split) <;> rfl
@[simp] theorem Vram.setTag_fmt (v : Vram) (x y : Int) (t : BitVec 2) : (v.setTag x y t).fmt = v.fmt := by
  unfold Vram.setTag; split <;> (try split) <;> simp [*]
@[simp] theorem Vram.setTag_read (v : Vram) (x y x' y' : Int) (t : BitVec 2) :
    (v.setTag x y t).read x' y' = v.read x' y' := by simp [Vram.read]

/-- `TAG` of every cell after a tag is written (R195): nothing in `F15`. -/
theorem Vram.tag_setTag (v : Vram) (x y x' y' : Int) (t : BitVec 2) :
    (v.setTag x y t).tag x' y' =
      if v.fmt = .f24 ∧ cellIndex x' y' = cellIndex x y then t else v.tag x' y' := by
  unfold Vram.setTag Vram.tag
  cases hf : v.fmt with
  | f15 => simp [hf]
  | f24 =>
    by_cases ht : t = defaultTag (cellIndex x y)
    · simp only [if_pos ht, Sparse.get?_erase, true_and]
      split
      · next h => simp [h, ht]
      · rfl
    · simp only [if_neg ht, Sparse.get?_set, true_and]
      split <;> simp

@[simp] theorem Vram.setFlags_native (v : Vram) (x y : Int) (f : CellFlags) :
    (v.setFlags x y f).native = v.native := by unfold Vram.setFlags; split <;> rfl
@[simp] theorem Vram.setFlags_fmt (v : Vram) (x y : Int) (f : CellFlags) :
    (v.setFlags x y f).fmt = v.fmt := by unfold Vram.setFlags; split <;> rfl
@[simp] theorem Vram.setFlags_tags (v : Vram) (x y : Int) (f : CellFlags) :
    (v.setFlags x y f).tags = v.tags := by unfold Vram.setFlags; split <;> rfl
@[simp] theorem Vram.setFlags_read (v : Vram) (x y x' y' : Int) (f : CellFlags) :
    (v.setFlags x y f).read x' y' = v.read x' y' := by simp [Vram.read]

/-- The palette flags of every cell after flags are written. -/
theorem Vram.flagsAt_setFlags (v : Vram) (x y x' y' : Int) (f : CellFlags) :
    (v.setFlags x y f).flagsAt x' y' = if cellIndex x' y' = cellIndex x y then f else v.flagsAt x' y' := by
  unfold Vram.setFlags Vram.flagsAt
  by_cases hf : f = noFlags
  · simp only [if_pos hf, Sparse.get?_erase]; split <;> simp [hf]
  · simp only [if_neg hf, Sparse.get?_set]; split <;> simp

/-- A conversion keeps every byte of the native view (R79). -/
@[simp] theorem Vram.convertTo_native (v : Vram) (f : VFmt) : (v.convertTo f).native = v.native := by
  unfold Vram.convertTo; split <;> rfl
@[simp] theorem Vram.convertTo_fmt (v : Vram) (f : VFmt) : (v.convertTo f).fmt = f := by
  unfold Vram.convertTo; split <;> simp [*]

/-! ## Main memory -/

theorem wordAddr_lt (a : Nat) : wordAddr a + 3 < mainBytes := by unfold wordAddr mainBytes; omega

theorem wordAddr_aligned (a : Nat) : wordAddr a % 4 = 0 := by unfold wordAddr; omega

/-- `MemWrite` says everything it does: it fails exactly where a read does, and else replaces four bytes. -/
theorem memWrite_cases (m : Memory) (a : Nat) (w : Word) :
    (memRead m a = none ∧ memWrite m a w = none) ∨
      ((memRead m a).isSome = true ∧ ∃ m', memWrite m a w = some m' ∧
        ∀ c, Sparse.get? c m' =
          if c = a + 3 then some (byteOfWord w 3) else if c = a + 2 then some (byteOfWord w 2)
          else if c = a + 1 then some (byteOfWord w 1) else if c = a then some (byteOfWord w 0)
          else Sparse.get? c m) := by
  unfold memWrite
  cases h : memRead m a with
  | none => left; simp
  | some w' =>
    right
    refine ⟨by simp, _, rfl, fun c => ?_⟩
    simp only [Sparse.get?_set]

theorem memWrite_wf {m m' : Memory} {a : Nat} {w : Word} (h : Memory.wf none mainBytes m = true)
    (ha : a + 3 < mainBytes) (hm : memWrite m a w = some m') : Memory.wf none mainBytes m' = true := by
  unfold memWrite at hm
  split at hm
  · cases hm
  · cases hm
    exact Memory.wf_set (Memory.wf_set (Memory.wf_set (Memory.wf_set h (by omega) (by simp)) (by omega) (by simp))
      (by omega) (by simp)) (by omega) (by simp)

end Sys2Proof.Machine
end

