-- ==== Sys2Proof/Laws/Ops.lean ====
section
/-! SUPPORT. One lemma for each shared operation that says all it can do: the lock, diagnostics, ranges, the pixel
pipeline, the block operations, the read port. The provers cite these and unfold nothing. -/

namespace Sys2Proof.Machine

/-! ## Ranges -/

/-- `rangeII` lists exactly the integers of its range. -/
theorem mem_rangeII {lo hi x : Int} : x ∈ rangeII lo hi ↔ lo ≤ x ∧ x ≤ hi := by
  simp only [rangeII, List.mem_map, List.mem_range, Int.ofNat_eq_natCast]
  constructor
  · rintro ⟨k, hk, rfl⟩; omega
  · rintro ⟨h1, h2⟩; exact ⟨(x - lo).toNat, by omega, by omega⟩

theorem rangeII_nodup (lo hi : Int) : (rangeII lo hi).Nodup := by
  refine List.Nodup.map (fun a b h => ?_) List.nodup_range
  simp only [Int.ofNat_eq_natCast] at h; omega

theorem mem_blockOffsets {w h : Nat} {ij : Nat × Nat} : ij ∈ blockOffsets w h ↔ ij.1 < w ∧ ij.2 < h := by
  obtain ⟨i, j⟩ := ij
  simp only [blockOffsets, List.mem_flatMap, List.mem_map, List.mem_range, Prod.mk.injEq]
  constructor
  · rintro ⟨b, hb, a, ha, rfl, rfl⟩; exact ⟨ha, hb⟩
  · rintro ⟨hi, hj⟩; exact ⟨j, hj, i, hi, rfl, rfl⟩

/-! ## The lock and the diagnostic -/

/-- Everything `locked` can do (R90, R91, R206). -/
theorem locked_cases (f : State → State) (s : State) :
    (s.lock = .free ∧ locked f s = releaseLock (f (acquireLock s))) ∨
      (s.lock = .block ∧ locked f s = f s) ∨ (s.lock = .sink ∧ locked f s = s) := by
  unfold locked; cases s.lock <;> simp

/-- Everything `raiseDiag` can do (R402). -/
theorem raiseDiag_cases (k : DiagKind) (s : State) :
    (s.diag k = true ∧ raiseDiag k s = s) ∨
      (s.diag k = false ∧ raiseDiag k s = emit (.diag k) (setDiag k s)) := by
  unfold raiseDiag; cases s.diag k <;> simp

@[simp] theorem setDiag_diag (k : DiagKind) (s : State) : (setDiag k s).diag k = true := by cases k <;> rfl

/-- After a raise the sticky bit is set (R402). -/
theorem raiseDiag_diag (k : DiagKind) (s : State) : (raiseDiag k s).diag k = true := by
  rcases raiseDiag_cases k s with ⟨h, e⟩ | ⟨-, e⟩ <;> rw [e]
  · exact h
  · cases k <;> rfl

/-! ## The pixel pipeline -/

/-- Everything `Plot` can do: nothing, or one cell written whose mask bit was not protected (R300, R307). -/
theorem plot_cases (m : RenderMode) (v : Vram) (p : Pixel) :
    plot m v p = v ∨ ((m.chk = false ∨ maskBit (v.read p.x p.y) = false) ∧ ∃ c sm, source m v p = some (c, sm) ∧
      plot m v p = v.write p.x p.y (plotValue m (v.read p.x p.y) c sm)) := by
  unfold plot
  cases hs : source m v p with
  | none => left; rfl
  | some q =>
    obtain ⟨c, sm⟩ := q
    by_cases h : (m.chk && maskBit (v.read p.x p.y)) = true
    · left; simp only [h, if_true]
    · refine .inr ⟨?_, c, sm, rfl, by simp only [h]; rfl⟩
      cases h1 : m.chk <;> simp_all

@[simp] theorem plot_fmt (m : RenderMode) (v : Vram) (p : Pixel) : (plot m v p).fmt = v.fmt := by
  rcases plot_cases m v p with h | ⟨-, c, sm, -, h⟩ <;> rw [h]; rfl

@[simp] theorem plot_tags (m : RenderMode) (v : Vram) (p : Pixel) : (plot m v p).tags = v.tags := by
  rcases plot_cases m v p with h | ⟨-, c, sm, -, h⟩ <;> rw [h]; rfl

theorem plotAll_nil (m : RenderMode) (v : Vram) : plotAll m v [] = v := rfl

theorem plotAll_cons (m : RenderMode) (v : Vram) (p : Pixel) (ps : List Pixel) :
    plotAll m v (p :: ps) = plotAll m (plot m v p) ps := rfl

theorem plotAll_append (m : RenderMode) (v : Vram) (ps qs : List Pixel) :
    plotAll m v (ps ++ qs) = plotAll m (plotAll m v ps) qs := List.foldl_append ..

/-- A property of VRAM that every plotted cell keeps is kept by a draw. -/
theorem plotAll_induct {P : Vram → Prop} (m : RenderMode) (v : Vram) (ps : List Pixel) (h0 : P v)
    (h : ∀ w, P w → ∀ p ∈ ps, P (plot m w p)) : P (plotAll m v ps) := by
  induction ps generalizing v with
  | nil => exact h0
  | cons p t ih =>
    exact ih _ (h v h0 p (by simp)) fun w hw q hq => h w hw q (by simp [hq])

@[simp] theorem plotAll_fmt (m : RenderMode) (v : Vram) (ps : List Pixel) : (plotAll m v ps).fmt = v.fmt :=
  plotAll_induct (P := fun w => w.fmt = v.fmt) m v ps rfl fun w hw p _ => by simp [hw]

@[simp] theorem plotAll_tags (m : RenderMode) (v : Vram) (ps : List Pixel) : (plotAll m v ps).tags = v.tags :=
  plotAll_induct (P := fun w => w.tags = v.tags) m v ps rfl fun w hw p _ => by simp [hw]

theorem plot_byte_frame (m : RenderMode) (v : Vram) (p : Pixel) {a : Nat} (ha : a / 2 ≠ cellIndex p.x p.y) :
    vramByte (plot m v p).native a = vramByte v.native a := by
  rcases plot_cases m v p with h | ⟨-, c, sm, -, h⟩ <;> rw [h]
  rw [Vram.write_native, vramByte_setCell, if_neg (by omega), if_neg (by omega)]

/-- A byte of a cell no pixel names is unchanged by a draw. -/
theorem plotAll_byte_frame (m : RenderMode) (v : Vram) (ps : List Pixel) {a : Nat}
    (ha : ∀ p ∈ ps, a / 2 ≠ cellIndex p.x p.y) : vramByte (plotAll m v ps).native a = vramByte v.native a :=
  plotAll_induct (P := fun w => vramByte w.native a = vramByte v.native a) m v ps rfl
    fun w hw p hp => by rw [plot_byte_frame m w p (ha p hp), hw]

theorem plot_wf (m : RenderMode) (v : Vram) (p : Pixel)
    (h : Memory.wf (some vramUnlisted) vramBytes v.native = true) :
    Memory.wf (some vramUnlisted) vramBytes (plot m v p).native = true := by
  rcases plot_cases m v p with e | ⟨-, c, sm, -, e⟩ <;> rw [e]
  · exact h
  · exact setCell_wf h ..

theorem plotAll_wf (m : RenderMode) (v : Vram) (ps : List Pixel)
    (h : Memory.wf (some vramUnlisted) vramBytes v.native = true) :
    Memory.wf (some vramUnlisted) vramBytes (plotAll m v ps).native = true :=
  plotAll_induct (P := fun w => Memory.wf (some vramUnlisted) vramBytes w.native = true) m v ps h
    fun w hw p _ => plot_wf m w p hw

/-! ## The start of a draw -/

@[simp] theorem resolveSolid_native (k : ClutSel) (e : Bool) (v : Vram) : (resolveSolid k e v).native = v.native := by
  unfold resolveSolid; split <;> simp
@[simp] theorem resolveSolid_fmt (k : ClutSel) (e : Bool) (v : Vram) : (resolveSolid k e v).fmt = v.fmt := by
  unfold resolveSolid; split <;> simp
@[simp] theorem resolveSolid_tags (k : ClutSel) (e : Bool) (v : Vram) : (resolveSolid k e v).tags = v.tags := by
  unfold resolveSolid; split <;> simp

@[simp] theorem decodePage_vram' (p : BitVec 5) (e : Bool) (s : State) : (decodePage p e s).vram = s.vram := by simp

@[simp] theorem beginTexture_native (k : ClutSel) (s : State) : (beginTexture k s).vram.native = s.vram.native := by
  unfold beginTexture; split <;> simp
@[simp] theorem beginTexture_fmt (k : ClutSel) (s : State) : (beginTexture k s).vram.fmt = s.vram.fmt := by
  unfold beginTexture; split <;> simp

/-- What a draw does to VRAM: it plots its pixels on a VRAM whose native view is that before the draw. -/
theorem drawPrimitive_vram (t r m : Bool) (k : ClutSel) (ps : List Pixel) (s : State) :
    ∃ v : Vram, v.native = s.vram.native ∧ v.fmt = s.vram.fmt ∧
      (drawPrimitive t r m k ps s).vram = plotAll (s.mode t (effectiveRaw t r s) m k) v ps := by
  unfold drawPrimitive
  cases t
  · exact ⟨s.vram, rfl, rfl, rfl⟩
  · refine ⟨(beginTexture k s).vram, by simp, by simp, ?_⟩
    simp [State.mode, effectiveRaw]

/-! ## Reports -/

@[simp] theorem reportIfAny_native (r : Rect) (s : State) : (reportIfAny r s).vram.native = s.vram.native := by
  unfold reportIfAny; split <;> simp
@[simp] theorem reportIfAny_fmt (r : Rect) (s : State) : (reportIfAny r s).vram.fmt = s.vram.fmt := by
  unfold reportIfAny; split <;> simp

/-- `DIRTY` after a primitive's report (R368). -/
theorem reportIfAny_dirty (r : Rect) (s : State) :
    (reportIfAny r s).dirty = if r.isEmpty then s.dirty else some (bbox s.dirty r) := by
  unfold reportIfAny; split <;> simp

@[simp] theorem writeMode_dm (c : PolyCmd) (s : State) :
    (c.writeMode s).dm = match c.tex with
      | some (_, a) => s.dm.withPage a
      | none => s.dm := by
  unfold PolyCmd.writeMode; cases c.tex <;> rfl

/-! ## Blocks -/

theorem fillBlock_induct {P : Vram → Prop} (p : BitVec 16) (x y w h : Nat) (v : Vram) (h0 : P v)
    (hs : ∀ u, P u → ∀ i j, i < w → j < h → P (u.write (x + i : Nat) (y + j : Nat) p)) :
    P (fillBlock p x y w h v) := by
  unfold fillBlock
  refine List.foldlRecOn _ _ h0 fun u hu ij hij => ?_
  obtain ⟨h1, h2⟩ := mem_blockOffsets.1 hij
  exact hs u hu _ _ h1 h2

theorem fillBlock_wf (p : BitVec 16) (x y w h : Nat) (v : Vram)
    (hv : Memory.wf (some vramUnlisted) vramBytes v.native = true) :
    Memory.wf (some vramUnlisted) vramBytes (fillBlock p x y w h v).native = true :=
  fillBlock_induct (P := fun u => Memory.wf (some vramUnlisted) vramBytes u.native = true) p x y w h v hv
    fun _ hu _ _ _ _ => setCell_wf hu ..

@[simp] theorem fillBlock_fmt (p : BitVec 16) (x y w h : Nat) (v : Vram) : (fillBlock p x y w h v).fmt = v.fmt :=
  fillBlock_induct (P := fun u => u.fmt = v.fmt) p x y w h v rfl fun _ hu _ _ _ _ => hu

theorem maskedWrite_wf {msk : MaskMode} {v : Vram} (x y : Int) (p : BitVec 16)
    (hv : Memory.wf (some vramUnlisted) vramBytes v.native = true) :
    Memory.wf (some vramUnlisted) vramBytes (v.maskedWrite msk x y p).native = true := by
  rcases Vram.maskedWrite_cases msk v x y p with ⟨-, -, e⟩ | ⟨-, e⟩ <;> rw [e]
  · exact hv
  · exact setCell_wf hv ..

theorem copyBlock_induct {P : Vram → Prop} (msk : MaskMode) (o : Copy) (v : Vram) (h0 : P v)
    (hs : ∀ u, P u → ∀ x y p, P (u.maskedWrite msk x y p)) : P (copyBlock msk o v) := by
  unfold copyBlock
  exact List.foldlRecOn _ _ h0 fun u hu _ _ => hs u hu _ _ _

theorem copyBlock_wf (msk : MaskMode) (o : Copy) (v : Vram)
    (hv : Memory.wf (some vramUnlisted) vramBytes v.native = true) :
    Memory.wf (some vramUnlisted) vramBytes (copyBlock msk o v).native = true :=
  copyBlock_induct (P := fun u => Memory.wf (some vramUnlisted) vramBytes u.native = true) msk o v hv
    fun _ hu x y p => maskedWrite_wf x y p hu

@[simp] theorem copyBlock_fmt (msk : MaskMode) (o : Copy) (v : Vram) : (copyBlock msk o v).fmt = v.fmt :=
  copyBlock_induct (P := fun u => u.fmt = v.fmt) msk o v rfl fun _ hu _ _ _ => by simp [hu]

/-! ## Image-in -/

theorem storePixel_wf (msk : MaskMode) (i : ImageIn) (p : BitVec 16) (v : Vram)
    (hv : Memory.wf (some vramUnlisted) vramBytes v.native = true) :
    Memory.wf (some vramUnlisted) vramBytes (storePixel msk i p v).native = true := by
  unfold storePixel
  rw [Vram.setTag_native]
  exact maskedWrite_wf _ _ _ hv

@[simp] theorem formatSwitch_native (n : Nat) (s : State) : (formatSwitch n s).vram.native = s.vram.native := by
  unfold formatSwitch; split <;> simp

/-- After `FormatSwitch` VRAM has the format it asks for (R196). -/
@[simp] theorem formatSwitch_fmt (n : Nat) (s : State) :
    (formatSwitch n s).vram.fmt = wantedFormat s.pend.c24 n := by
  unfold formatSwitch; split
  · next h => exact h.symm
  · simp

/-! ## Decoded operands are well formed -/

theorem sizeField_bounds {m : Nat} (hm : 0 < m) (v : Nat) : 1 ≤ sizeField m v ∧ sizeField m v ≤ m := by
  unfold sizeField
  have := Nat.mod_lt (v + (m - 1)) hm
  omega

/-- `sizeField` is the masked form R124 writes, for both sizes. -/
theorem sizeField_eq_mask (v : BitVec 16) :
    sizeField 1024 v.toNat = ((v - 1#16) &&& 0x3FF#16).toNat + 1 ∧
      sizeField 512 v.toNat = ((v - 1#16) &&& 0x1FF#16).toNat + 1 := by
  have h1 : ((v - 1#16) &&& 0x3FF#16).toNat = (v - 1#16).toNat % 1024 := by
    rw [BitVec.toNat_and]; exact Nat.and_two_pow_sub_one_eq_mod _ 10
  have h2 : ((v - 1#16) &&& 0x1FF#16).toNat = (v - 1#16).toNat % 512 := by
    rw [BitVec.toNat_and]; exact Nat.and_two_pow_sub_one_eq_mod _ 9
  rw [h1, h2, BitVec.toNat_sub]
  simp only [sizeField, BitVec.toNat_ofNat]
  have := v.isLt
  omega

/-- `fillX` and `fillW` are the masked forms R123 writes, of a 10-bit field. -/
theorem fillX_eq_mask : ∀ v : BitVec 10, fillX v.toNat = (v &&& 0x3F0#10).toNat := by decide +kernel

theorem fillW_eq_mask : ∀ v : BitVec 10, fillW v.toNat = ((v.setWidth 16 + 15#16) &&& 0x7F0#16).toNat := by
  decide +kernel

/-! ## The read port -/

/-- Everything `GPUREAD` can do (R362). -/
theorem gpuRead_cases (s : State) :
    (s.rd.ractive = false ∧ gpuRead s = (s.rd.rlatch, s)) ∨
      (s.rd.ractive = true ∧ gpuRead s = (readWord s.vram s.rd,
        { s with rd := { s.rd with rpos := readAdvance s.rd, rlatch := readWord s.vram s.rd,
                                   ractive := decide (readAdvance s.rd ≠ s.rd.rw * s.rd.rh) } })) := by
  unfold gpuRead; cases s.rd.ractive <;> simp

/-- A read-out advances by two pixels and stops at the last (R362). -/
theorem readAdvance_eq (rd : ReadOut) (h : rd.rpos ≤ rd.rw * rd.rh) :
    readAdvance rd = min (rd.rpos + 2) (rd.rw * rd.rh) := by
  unfold readAdvance; split
  · omega
  · split <;> omega

/-! ## Outcomes -/

@[simp] theorem andThen_next (s : State) (f : State → Out) : andThen (.next s) f = f s := rfl

/-- A sequence ends in a next state exactly through next states. -/
theorem andThen_eq_next {o : Out} {f : State → Out} {t : State} :
    andThen o f = .next t ↔ ∃ s, o = .next s ∧ f s = .next t := by
  cases o <;> simp [andThen]

/-! ## The ports' addresses -/

/-- The bits of a word-aligned address. -/
theorem getLsbD_slot (a : BitVec 30) (i : Nat) :
    BitVec.getLsbD (w := 32) (a ++ 0#2) i = if i < 2 then (0#2).getLsbD i else a.getLsbD (i - 2) :=
  BitVec.getLsbD_append

theorem slot_inj {a b : BitVec 30} (h : (a ++ 0#2 : Word) = b ++ 0#2) : a = b := by
  apply BitVec.eq_of_getLsbD_eq
  intro i hi
  simpa [getLsbD_slot] using congrArg (fun x => BitVec.getLsbD x (i + 2)) h

theorem slot_aligned (a : BitVec 30) : BitVec.extractLsb' 0 2 (a ++ 0#2 : Word) = 0#2 := by
  apply BitVec.eq_of_getLsbD_eq
  intro i hi
  simp [getLsbD_slot, hi]

/-- The two ports stand at distinct addresses (R86). -/
theorem gp0Addr_ne_gp1Addr : Config.gp0Addr ≠ Config.gp1Addr := by
  intro h
  have h3 := congrArg BitVec.toNat (slot_inj h)
  simp only [Config.portDistance, BitVec.toNat_add, BitVec.toNat_ofNat] at h3
  omega

/-- Both are word-aligned (R86). -/
theorem ports_aligned : Config.gp0Addr.extractLsb' 0 2 = 0#2 ∧ Config.gp1Addr.extractLsb' 0 2 = 0#2 :=
  ⟨slot_aligned _, slot_aligned _⟩

/-- A bus write at either port's address is that port's call (R70). -/
theorem busWrite_ports (w : Word) :
    busWrite Config.gp0Addr w = some (.gp0Write w) ∧ busWrite Config.gp1Addr w = some (.gp1Write w) := by
  simp [busWrite, gp0Addr_ne_gp1Addr.symm]

/-- A bus read at either port's address is that port's call (R70). -/
theorem busRead_ports : busRead Config.gp0Addr = some .gpuRead ∧ busRead Config.gp1Addr = some .gpuStat := by
  simp [busRead, gp0Addr_ne_gp1Addr.symm]

/-! ## The list walk -/

theorem listBound_pos : 1 ≤ Config.listBound := by
  unfold Config.listBound
  cases Config.listFuel with
  | none => decide
  | some n => exact Nat.le_max_left ..

end Sys2Proof.Machine
end

