-- ==== Sys2Proof/Laws/Draw.lean ====
section
/-! SUPPORT. What a draw and its report do, said once: the native view depends on no hidden bit, only named fields change,
bytes outside the pixels stay. -/

namespace Sys2Proof.Machine

theorem texel_native (m : RenderMode) {v w : Vram} (h : v.native = w.native) (a b : BitVec 8) : texel m v a b = texel m w a b := by
  unfold texel texelAt clutEntry Vram.read; rw [h]
theorem plot_native (m : RenderMode) {v w : Vram} (h : v.native = w.native) (p : Pixel) : (plot m v p).native = (plot m w p).native := by
  unfold plot source
  simp only [texel_native m h]
  split <;> simp_all [Vram.read]
  split <;> simp_all
theorem plotAll_native (m : RenderMode) (ps : List Pixel) {v w : Vram} (h : v.native = w.native) : (plotAll m v ps).native = (plotAll m w ps).native := by
  induction ps generalizing v w with
  | nil => exact h
  | cons p t ih => exact ih (plot_native m h p)

theorem beginTexture_frame (k : ClutSel) (s : State) : beginTexture k s = { s with vram := (beginTexture k s).vram, tpc := (beginTexture k s).tpc } := by
  unfold beginTexture decodePage; split <;> (try split) <;> rfl
theorem beginTexture_tags (k : ClutSel) (s : State) : (beginTexture k s).vram.tags = s.vram.tags := by
  unfold beginTexture decodePage; split <;> (try split) <;> simp

theorem effectiveRaw_eq (t r : Bool) (s : State) : effectiveRaw t r s = r := by simp [effectiveRaw, Config.mod16Implemented]

theorem drawPrimitive_frame (t r m : Bool) (k : ClutSel) (ps : List Pixel) (s : State) :
    drawPrimitive t r m k ps s = { s with vram := (drawPrimitive t r m k ps s).vram, tpc := (drawPrimitive t r m k ps s).tpc } := by
  unfold drawPrimitive drawPixels; cases t
  · rfl
  · simp only [if_true]; generalize hb : beginTexture k s = b
    have := beginTexture_frame k s; rw [hb] at this; rw [this]
theorem drawPrimitive_native (t r m : Bool) (k : ClutSel) (ps : List Pixel) (s : State) :
    (drawPrimitive t r m k ps s).vram.native = (plotAll (s.mode t r m k) s.vram ps).native := by
  obtain ⟨v, h1, h2, h3⟩ := drawPrimitive_vram t r m k ps s
  rw [h3, effectiveRaw_eq, plotAll_native _ _ h1]
theorem drawPrimitive_fmt (t r m : Bool) (k : ClutSel) (ps : List Pixel) (s : State) :
    (drawPrimitive t r m k ps s).vram.fmt = s.vram.fmt := by
  obtain ⟨v, h1, h2, h3⟩ := drawPrimitive_vram t r m k ps s
  rw [h3, plotAll_fmt, h2]
theorem drawPrimitive_tags (t r m : Bool) (k : ClutSel) (ps : List Pixel) (s : State) :
    (drawPrimitive t r m k ps s).vram.tags = s.vram.tags := by
  unfold drawPrimitive drawPixels; cases t <;> simp [beginTexture_tags]

theorem report_frame (r : Rect) (s : State) : report r s = { s with vram := { s.vram with flags := (report r s).vram.flags }, tpc := s.tpc.filter fun e => !footprintMeets e r, dirty := some (bbox s.dirty r) } := rfl

theorem draw_result (t r m : Bool) (k : ClutSel) (ps : List Pixel) (R : Rect) (s : State) (d : DrawMode) (hs : s.lock = .free) :
    ∃ u, releaseLock (reportIfAny R (drawPrimitive t r m k ps (mod16Check t r { acquireLock s with dm := d }))) = u ∧
      u = { s with dm := d, vram := u.vram, tpc := u.tpc, dirty := u.dirty, trace := s.trace ++ [.acquire, .release] } ∧
      u.vram.native = (plotAll (State.mode { s with dm := d } t r m k) s.vram ps).native ∧
      (∀ a : Nat, (∀ p ∈ ps, a / 2 ≠ cellIndex p.x p.y) → vramByte u.vram.native a = vramByte s.vram.native a) ∧
      u.vram.fmt = s.vram.fmt ∧ u.vram.tags = s.vram.tags ∧
      (R.isEmpty = true → u.dirty = s.dirty) ∧
      (R.isEmpty = false → u.dirty = some (bbox s.dirty R) ∧ ∀ e ∈ u.tpc, footprintMeets e R = false) := by
  rw [mod16Check_eq]
  refine ⟨_, rfl, ?_⟩
  have hf := drawPrimitive_frame t r m k ps { acquireLock s with dm := d }
  have hn := drawPrimitive_native t r m k ps { acquireLock s with dm := d }
  have hm := drawPrimitive_fmt t r m k ps { acquireLock s with dm := d }
  have ht := drawPrimitive_tags t r m k ps { acquireLock s with dm := d }
  have hb : ∀ a : Nat, (∀ p ∈ ps, a / 2 ≠ cellIndex p.x p.y) →
      vramByte (drawPrimitive t r m k ps { acquireLock s with dm := d }).vram.native a = vramByte s.vram.native a := by
    intro a ha; rw [hn]; exact plotAll_byte_frame _ _ _ ha
  generalize (drawPrimitive t r m k ps { acquireLock s with dm := d }).vram = V at *
  generalize (drawPrimitive t r m k ps { acquireLock s with dm := d }).tpc = T at *
  rw [hf]
  cases hR : R.isEmpty
  · have e : ∀ u, reportIfAny R u = report R u := by simp [reportIfAny, hR]
    rw [e]
    refine ⟨?_, hn, hb, hm, ht, by simp, fun _ => ⟨rfl, fun e he => ?_⟩⟩
    · rw [report_frame]; simp [releaseLock, emit, acquireLock, hs]
    · have : e ∈ T.filter fun e => !footprintMeets e R := he
      simpa using (List.mem_filter.1 this).2
  · have e : ∀ u, reportIfAny R u = u := by simp [reportIfAny, hR]
    rw [e]
    refine ⟨?_, hn, hb, hm, ht, fun _ => rfl, by simp⟩
    simp [releaseLock, emit, acquireLock, hs]

theorem locked_free {f : State → State} {s : State} (h : s.lock = .free) : locked f s = releaseLock (f (acquireLock s)) := by
  simp [locked, h]

theorem rangeII_empty {a b : Int} (h : b < a) : rangeII a b = [] := by
  unfold rangeII; rw [show (b + 1 - a).toNat = 0 by omega]; rfl

theorem clip_empty {clip : Rect} (h : clip.isEmpty = true) : clip.x1 < clip.x0 ∨ clip.y1 < clip.y0 := by
  simpa [Rect.isEmpty] using h
theorem triPixels_empty {clip : Rect} (h : clip.isEmpty = true) (sh) (t : Tri) : t.pixels clip sh = [] := by
  unfold Tri.pixels; split; · rfl
  rcases clip_empty h with h | h
  · rw [List.flatMap_eq_nil_iff]; intro y _; unfold Tri.row; rw [rangeII_empty (by omega)]; rfl
  · rw [rangeII_empty (by omega)]; rfl
theorem polyPixels_empty {clip : Rect} (h : clip.isEmpty = true) (c : PolyCmd) (ofs) : c.pixels ofs clip = [] := by
  unfold PolyCmd.pixels trianglePixels quadPixels trianglePixels quadRectPixels; split
  · exact triPixels_empty h ..
  · split
    · rcases clip_empty h with h | h
      · rw [List.flatMap_eq_nil_iff]; intro y _
        have hx : ∀ p q : Int, min p clip.x1 < max q clip.x0 := by omega
        simp [rangeII_empty (hx _ _)]
      · have hy : ∀ p q : Int, min p clip.y1 < max q clip.y0 := by omega
        rw [rangeII_empty (hy _ _)]; rfl
    · simp [triPixels_empty h]
theorem inter_empty {a clip : Rect} (h : clip.isEmpty = true) : (a.inter clip).isEmpty = true := by
  have : (min a.x1 clip.x1 < max a.x0 clip.x0) ∨ (min a.y1 clip.y1 < max a.y0 clip.y0) := by
    rcases clip_empty h with h | h <;> omega
  unfold Rect.isEmpty Rect.inter
  exact (Bool.or_eq_true _ _).mpr (this.imp decide_eq_true decide_eq_true)

theorem rectPixels_empty {clip : Rect} (h : clip.isEmpty = true) (c : RectCmd) (ofs : DrawOffset) :
    c.pixels ofs clip = [] := by
  unfold RectCmd.pixels Rect.inter
  rcases clip_empty h with h | h
  · rw [List.flatMap_eq_nil_iff]; intro y _
    have hx : ∀ p q : Int, min p clip.x1 < max q clip.x0 := by omega
    simp [rangeII_empty (hx _ _)]
  · have hy : ∀ p q : Int, min p clip.y1 < max q clip.y0 := by omega
    rw [show rangeII _ _ = [] from rangeII_empty (hy _ _)]; rfl

theorem linePixels_cell {p0 p1 : Int × Int} {c0 c1 : Rgb} {p : Pixel} (h : p ∈ linePixels p0 p1 c0 c1) :
    (p.x, p.y) ∈ lineCells p0 p1 := by
  unfold linePixels at h
  obtain ⟨i, hi, rfl⟩ := List.mem_mapIdx.1 h
  exact List.getElem_mem hi

/-- Everything a segment can do: nothing where an endpoint is outside the clip rectangle, else its pixels and its report. -/
theorem segment_cases (p0 p1 : Int × Int) (c0 c1 : Rgb) (semi : Bool) (s : State) :
    (lineAccepted s.clip p0 p1 = false ∧ segment p0 p1 c0 c1 semi s = s) ∨
      (lineAccepted s.clip p0 p1 = true ∧ ∃ u, segment p0 p1 c0 c1 semi s = u ∧
        u = { s with vram := u.vram, tpc := u.tpc, dirty := some (bbox s.dirty (lineBox p0 p1)) } ∧
        u.vram.native = (plotAll (s.mode false false semi ⟨0#6, 0#9⟩) s.vram (linePixels p0 p1 c0 c1)).native ∧
        u.vram.fmt = s.vram.fmt ∧ u.vram.tags = s.vram.tags ∧
        u.tpc = s.tpc.filter fun e => !footprintMeets e (lineBox p0 p1)) := by
  unfold segment
  cases h : lineAccepted s.clip p0 p1
  · simp
  · right
    refine ⟨rfl, _, rfl, ?_⟩
    simp only [if_true]
    refine ⟨by rw [report_frame]; rfl, ?_, ?_, ?_, rfl⟩
    · rw [report_frame]; simp only [drawPixels, effectiveRaw_eq]
    · rw [report_frame]; simp only [drawPixels, plotAll_fmt]
    · rw [report_frame]; simp only [drawPixels, plotAll_tags]

end Sys2Proof.Machine
end

