-- ==== Sys2Proof/Laws/Exec.lean ====
section
/-! SUPPORT. What `exec` can be, said once: every instruction is one of the forms of `ExecForm`, so a statement about
all instructions is a case analysis of some twenty forms and not of 320 constructors. -/

namespace Sys2Proof.Machine

/-- The meaning of an instruction, by form, with what its opcode says of it. -/
inductive ExecForm (i : Instr) : Prop where
  | keeps (ho : i.operands = .none) (hw : writesVram i = false) (he : ∀ s, exec i s = .next s)
  | flush (h : i = .flush)
  | fill (o : Fill) (h : i = .fill o)
  | polygon (c : PolyCmd) (hc : polygonOf i = some c) (hw : writesVram i = true)
      (he : ∀ s, exec i s = .next (locked (polygon c) s))
  | rectangle (c : RectCmd) (hc : rectangleOf i = some c) (hw : writesVram i = true)
      (he : ∀ s, exec i s = .next (locked (rectangle c) s))
  | line (c : LineCmd) (hc : lineOf i = some c) (hp : opPoly i = false) (hw : writesVram i = true)
      (he : ∀ s, exec i s = .next (locked (line c) s))
  | polyline (c : LineCmd) (hc : lineOf i = some c) (hp : opPoly i = true) (hw : writesVram i = true)
      (he : ∀ s, exec i s = .next (locked (polyline (polyKind i) c) s))
  | copy (o : Copy) (ho : i.operands = .copy o) (hw : writesVram i = true)
      (he : ∀ s, exec i s = .next (locked (vcopy o) s))
  | imageIn (o : Xfer) (ho : i.operands = .xfer o) (hp : opClass i.opcode = 5) (hw : writesVram i = true)
      (he : ∀ s, exec i s = .next (locked (imageIn o) s))
  | imageOut (o : Xfer) (ho : i.operands = .xfer o) (hp : opClass i.opcode = 6) (hw : writesVram i = false)
      (he : ∀ s, exec i s = .next (imageOut o s))
  | setmode (o : SetMode) (h : i = .setmode o)
  | settw (o : SetTw) (h : i = .settw o)
  | setclip1 (o : SetClip) (h : i = .setclip1 o)
  | setclip2 (o : SetClip) (h : i = .setclip2 o)
  | setofs (o : SetOfs) (h : i = .setofs o)
  | setmask (o : SetMask) (h : i = .setmask o)
  | g1Reset (h : i = .g1Reset)
  | g1Abort (h : i = .g1Abort)
  | g1Dispen (o : DispEn) (h : i = .g1Dispen o)
  | g1Dmadir (o : DmaDir) (h : i = .g1Dmadir o)
  | g1Origin (o : Origin) (h : i = .g1Origin o)
  | g1Hrange (o : HRange) (h : i = .g1Hrange o)
  | g1Vrange (o : VRange) (h : i = .g1Vrange o)
  | g1Mode (o : Mode) (h : i = .g1Mode o)
  | info (o : Info) (ho : i.operands = .info o) (hw : writesVram i = false)
      (he : ∀ s, exec i s = .next (latchInfo o s))

theorem opSemi_of {i : Instr} {op : BitVec 8} {b : Bool} (h : i.opcode = op) (hb : op.getLsbD 1 = b) : opSemi i = b := by
  rw [opSemi, h, hb]

theorem opRaw_of {i : Instr} {op : BitVec 8} {b : Bool} (h : i.opcode = op) (hb : op.getLsbD 0 = b) : opRaw i = b := by
  rw [opRaw, h, hb]

theorem writesVram_of {i : Instr} {op : BitVec 8} {b : Bool} (h : i.key = (.gp0, op)) (hb : opWritesVram op = b) :
    writesVram i = b := by
  unfold writesVram Instr.port Instr.opcode; rw [h]; simp [hb]

theorem writesVram_gp1 {i : Instr} {op : BitVec 8} (h : i.key = (.gp1, op)) : writesVram i = false := by
  unfold writesVram Instr.port Instr.opcode; rw [h]; rfl

theorem polygonOf_flatTri {i : Instr} {o : FlatTri} {a b : Bool} (h : i.operands = .flatTri o) (ha : opSemi i = a)
    (hb : opRaw i = b) : polygonOf i = some (flatTri o a b) := by
  unfold polygonOf; rw [h, ← ha, ← hb]

theorem polygonOf_flatTriTex {i : Instr} {o : FlatTriTex} {a b : Bool} (h : i.operands = .flatTriTex o) (ha : opSemi i = a)
    (hb : opRaw i = b) : polygonOf i = some (flatTriTex o a b) := by
  unfold polygonOf; rw [h, ← ha, ← hb]

theorem polygonOf_flatQuad {i : Instr} {o : FlatQuad} {a b : Bool} (h : i.operands = .flatQuad o) (ha : opSemi i = a)
    (hb : opRaw i = b) : polygonOf i = some (flatQuad o a b) := by
  unfold polygonOf; rw [h, ← ha, ← hb]

theorem polygonOf_flatQuadTex {i : Instr} {o : FlatQuadTex} {a b : Bool} (h : i.operands = .flatQuadTex o) (ha : opSemi i = a)
    (hb : opRaw i = b) : polygonOf i = some (flatQuadTex o a b) := by
  unfold polygonOf; rw [h, ← ha, ← hb]

theorem polygonOf_gourTri {i : Instr} {o : GourTri} {a b : Bool} (h : i.operands = .gourTri o) (ha : opSemi i = a)
    (hb : opRaw i = b) : polygonOf i = some (gourTri o a b) := by
  unfold polygonOf; rw [h, ← ha, ← hb]

theorem polygonOf_gourTriTex {i : Instr} {o : GourTriTex} {a b : Bool} (h : i.operands = .gourTriTex o) (ha : opSemi i = a)
    (hb : opRaw i = b) : polygonOf i = some (gourTriTex o a b) := by
  unfold polygonOf; rw [h, ← ha, ← hb]

theorem polygonOf_gourQuad {i : Instr} {o : GourQuad} {a b : Bool} (h : i.operands = .gourQuad o) (ha : opSemi i = a)
    (hb : opRaw i = b) : polygonOf i = some (gourQuad o a b) := by
  unfold polygonOf; rw [h, ← ha, ← hb]

theorem polygonOf_gourQuadTex {i : Instr} {o : GourQuadTex} {a b : Bool} (h : i.operands = .gourQuadTex o) (ha : opSemi i = a)
    (hb : opRaw i = b) : polygonOf i = some (gourQuadTex o a b) := by
  unfold polygonOf; rw [h, ← ha, ← hb]

theorem rectangleOf_rectVar {i : Instr} {o : RectVar} {a b : Bool} (h : i.operands = .rectVar o) (ha : opSemi i = a)
    (hb : opRaw i = b) : rectangleOf i = some (rectVar o a b) := by
  unfold rectangleOf; rw [h, ← ha, ← hb]

theorem rectangleOf_rectVarTex {i : Instr} {o : RectVarTex} {a b : Bool} (h : i.operands = .rectVarTex o) (ha : opSemi i = a)
    (hb : opRaw i = b) : rectangleOf i = some (rectVarTex o a b) := by
  unfold rectangleOf; rw [h, ← ha, ← hb]

theorem rectangleOf_rectFix {i : Instr} {o : RectFix} {a b : Bool} {n : Nat} (h : i.operands = .rectFix o)
    (hn : rectSide i = n) (ha : opSemi i = a) (hb : opRaw i = b) : rectangleOf i = some (rectFix n o a b) := by
  unfold rectangleOf; rw [h, ← ha, ← hb, ← hn]

theorem rectangleOf_rectFixTex {i : Instr} {o : RectFixTex} {a b : Bool} {n : Nat} (h : i.operands = .rectFixTex o)
    (hn : rectSide i = n) (ha : opSemi i = a) (hb : opRaw i = b) : rectangleOf i = some (rectFixTex n o a b) := by
  unfold rectangleOf; rw [h, ← ha, ← hb, ← hn]

theorem lineOf_flatLine {i : Instr} {o : FlatLine} {a : Bool} (h : i.operands = .flatLine o) (ha : opSemi i = a) :
    lineOf i = some (flatLine o a) := by
  unfold lineOf; rw [h, ← ha]

theorem lineOf_gourLine {i : Instr} {o : GourLine} {a : Bool} (h : i.operands = .gourLine o) (ha : opSemi i = a) :
    lineOf i = some (gourLine o a) := by
  unfold lineOf; rw [h, ← ha]

theorem rectSide_of {i : Instr} {op : BitVec 8} {n : Nat} (h : i.opcode = op)
    (hb : (match (op.extractLsb' 3 2).toNat with | 1 => 1 | 2 => 8 | _ => 16) = n) : rectSide i = n := by
  rw [rectSide, h]; exact hb

theorem opPoly_of {i : Instr} {op : BitVec 8} {b : Bool} (h : i.opcode = op) (hb : op.getLsbD 3 = b) : opPoly i = b := by
  rw [opPoly, h, hb]

theorem polyKind_of {i : Instr} {op : BitVec 8} {k : XKind} (h : i.opcode = op)
    (hb : (if op.getLsbD 4 then XKind.polyGouraud else .polyFlat) = k) : polyKind i = k := by
  rw [polyKind, h]; exact hb

theorem opClass_of {i : Instr} {op : BitVec 8} {n : Nat} (h : i.opcode = op) (hb : opClass op = n) : opClass i.opcode = n := by
  rw [h, hb]

/-- Every instruction is of one of the forms. -/
theorem execForm (i : Instr) : ExecForm i := by
  cases i with
  | nop => exact .keeps rfl (writesVram_of (op := 0x00#8) rfl (by decide)) fun _ => rfl
  | flush => exact .flush rfl
  | fill o => exact .fill o rfl
  | rsvd03 => exact .keeps rfl (writesVram_of (op := 0x03#8) rfl (by decide)) fun _ => rfl
  | rsvd04 => exact .keeps rfl (writesVram_of (op := 0x04#8) rfl (by decide)) fun _ => rfl
  | rsvd05 => exact .keeps rfl (writesVram_of (op := 0x05#8) rfl (by decide)) fun _ => rfl
  | rsvd06 => exact .keeps rfl (writesVram_of (op := 0x06#8) rfl (by decide)) fun _ => rfl
  | rsvd07 => exact .keeps rfl (writesVram_of (op := 0x07#8) rfl (by decide)) fun _ => rfl
  | rsvd08 => exact .keeps rfl (writesVram_of (op := 0x08#8) rfl (by decide)) fun _ => rfl
  | rsvd09 => exact .keeps rfl (writesVram_of (op := 0x09#8) rfl (by decide)) fun _ => rfl
  | rsvd0A => exact .keeps rfl (writesVram_of (op := 0x0A#8) rfl (by decide)) fun _ => rfl
  | rsvd0B => exact .keeps rfl (writesVram_of (op := 0x0B#8) rfl (by decide)) fun _ => rfl
  | rsvd0C => exact .keeps rfl (writesVram_of (op := 0x0C#8) rfl (by decide)) fun _ => rfl
  | rsvd0D => exact .keeps rfl (writesVram_of (op := 0x0D#8) rfl (by decide)) fun _ => rfl
  | rsvd0E => exact .keeps rfl (writesVram_of (op := 0x0E#8) rfl (by decide)) fun _ => rfl
  | rsvd0F => exact .keeps rfl (writesVram_of (op := 0x0F#8) rfl (by decide)) fun _ => rfl
  | rsvd10 => exact .keeps rfl (writesVram_of (op := 0x10#8) rfl (by decide)) fun _ => rfl
  | rsvd11 => exact .keeps rfl (writesVram_of (op := 0x11#8) rfl (by decide)) fun _ => rfl
  | rsvd12 => exact .keeps rfl (writesVram_of (op := 0x12#8) rfl (by decide)) fun _ => rfl
  | rsvd13 => exact .keeps rfl (writesVram_of (op := 0x13#8) rfl (by decide)) fun _ => rfl
  | rsvd14 => exact .keeps rfl (writesVram_of (op := 0x14#8) rfl (by decide)) fun _ => rfl
  | rsvd15 => exact .keeps rfl (writesVram_of (op := 0x15#8) rfl (by decide)) fun _ => rfl
  | rsvd16 => exact .keeps rfl (writesVram_of (op := 0x16#8) rfl (by decide)) fun _ => rfl
  | rsvd17 => exact .keeps rfl (writesVram_of (op := 0x17#8) rfl (by decide)) fun _ => rfl
  | rsvd18 => exact .keeps rfl (writesVram_of (op := 0x18#8) rfl (by decide)) fun _ => rfl
  | rsvd19 => exact .keeps rfl (writesVram_of (op := 0x19#8) rfl (by decide)) fun _ => rfl
  | rsvd1A => exact .keeps rfl (writesVram_of (op := 0x1A#8) rfl (by decide)) fun _ => rfl
  | rsvd1B => exact .keeps rfl (writesVram_of (op := 0x1B#8) rfl (by decide)) fun _ => rfl
  | rsvd1C => exact .keeps rfl (writesVram_of (op := 0x1C#8) rfl (by decide)) fun _ => rfl
  | rsvd1D => exact .keeps rfl (writesVram_of (op := 0x1D#8) rfl (by decide)) fun _ => rfl
  | rsvd1E => exact .keeps rfl (writesVram_of (op := 0x1E#8) rfl (by decide)) fun _ => rfl
  | rsvd1F => exact .keeps rfl (writesVram_of (op := 0x1F#8) rfl (by decide)) fun _ => rfl
  | polyF3 o => exact .polygon _ (polygonOf_flatTri rfl (opSemi_of (op := 0x20#8) (b := false) rfl (by decide)) (opRaw_of (op := 0x20#8) (b := false) rfl (by decide))) (writesVram_of (op := 0x20#8) rfl (by decide)) fun _ => rfl
  | polyF3R o => exact .polygon _ (polygonOf_flatTri rfl (opSemi_of (op := 0x21#8) (b := false) rfl (by decide)) (opRaw_of (op := 0x21#8) (b := true) rfl (by decide))) (writesVram_of (op := 0x21#8) rfl (by decide)) fun _ => rfl
  | polyF3S o => exact .polygon _ (polygonOf_flatTri rfl (opSemi_of (op := 0x22#8) (b := true) rfl (by decide)) (opRaw_of (op := 0x22#8) (b := false) rfl (by decide))) (writesVram_of (op := 0x22#8) rfl (by decide)) fun _ => rfl
  | polyF3SR o => exact .polygon _ (polygonOf_flatTri rfl (opSemi_of (op := 0x23#8) (b := true) rfl (by decide)) (opRaw_of (op := 0x23#8) (b := true) rfl (by decide))) (writesVram_of (op := 0x23#8) rfl (by decide)) fun _ => rfl
  | polyF3T o => exact .polygon _ (polygonOf_flatTriTex rfl (opSemi_of (op := 0x24#8) (b := false) rfl (by decide)) (opRaw_of (op := 0x24#8) (b := false) rfl (by decide))) (writesVram_of (op := 0x24#8) rfl (by decide)) fun _ => rfl
  | polyF3TR o => exact .polygon _ (polygonOf_flatTriTex rfl (opSemi_of (op := 0x25#8) (b := false) rfl (by decide)) (opRaw_of (op := 0x25#8) (b := true) rfl (by decide))) (writesVram_of (op := 0x25#8) rfl (by decide)) fun _ => rfl
  | polyF3TS o => exact .polygon _ (polygonOf_flatTriTex rfl (opSemi_of (op := 0x26#8) (b := true) rfl (by decide)) (opRaw_of (op := 0x26#8) (b := false) rfl (by decide))) (writesVram_of (op := 0x26#8) rfl (by decide)) fun _ => rfl
  | polyF3TSR o => exact .polygon _ (polygonOf_flatTriTex rfl (opSemi_of (op := 0x27#8) (b := true) rfl (by decide)) (opRaw_of (op := 0x27#8) (b := true) rfl (by decide))) (writesVram_of (op := 0x27#8) rfl (by decide)) fun _ => rfl
  | polyF4 o => exact .polygon _ (polygonOf_flatQuad rfl (opSemi_of (op := 0x28#8) (b := false) rfl (by decide)) (opRaw_of (op := 0x28#8) (b := false) rfl (by decide))) (writesVram_of (op := 0x28#8) rfl (by decide)) fun _ => rfl
  | polyF4R o => exact .polygon _ (polygonOf_flatQuad rfl (opSemi_of (op := 0x29#8) (b := false) rfl (by decide)) (opRaw_of (op := 0x29#8) (b := true) rfl (by decide))) (writesVram_of (op := 0x29#8) rfl (by decide)) fun _ => rfl
  | polyF4S o => exact .polygon _ (polygonOf_flatQuad rfl (opSemi_of (op := 0x2A#8) (b := true) rfl (by decide)) (opRaw_of (op := 0x2A#8) (b := false) rfl (by decide))) (writesVram_of (op := 0x2A#8) rfl (by decide)) fun _ => rfl
  | polyF4SR o => exact .polygon _ (polygonOf_flatQuad rfl (opSemi_of (op := 0x2B#8) (b := true) rfl (by decide)) (opRaw_of (op := 0x2B#8) (b := true) rfl (by decide))) (writesVram_of (op := 0x2B#8) rfl (by decide)) fun _ => rfl
  | polyF4T o => exact .polygon _ (polygonOf_flatQuadTex rfl (opSemi_of (op := 0x2C#8) (b := false) rfl (by decide)) (opRaw_of (op := 0x2C#8) (b := false) rfl (by decide))) (writesVram_of (op := 0x2C#8) rfl (by decide)) fun _ => rfl
  | polyF4TR o => exact .polygon _ (polygonOf_flatQuadTex rfl (opSemi_of (op := 0x2D#8) (b := false) rfl (by decide)) (opRaw_of (op := 0x2D#8) (b := true) rfl (by decide))) (writesVram_of (op := 0x2D#8) rfl (by decide)) fun _ => rfl
  | polyF4TS o => exact .polygon _ (polygonOf_flatQuadTex rfl (opSemi_of (op := 0x2E#8) (b := true) rfl (by decide)) (opRaw_of (op := 0x2E#8) (b := false) rfl (by decide))) (writesVram_of (op := 0x2E#8) rfl (by decide)) fun _ => rfl
  | polyF4TSR o => exact .polygon _ (polygonOf_flatQuadTex rfl (opSemi_of (op := 0x2F#8) (b := true) rfl (by decide)) (opRaw_of (op := 0x2F#8) (b := true) rfl (by decide))) (writesVram_of (op := 0x2F#8) rfl (by decide)) fun _ => rfl
  | polyG3 o => exact .polygon _ (polygonOf_gourTri rfl (opSemi_of (op := 0x30#8) (b := false) rfl (by decide)) (opRaw_of (op := 0x30#8) (b := false) rfl (by decide))) (writesVram_of (op := 0x30#8) rfl (by decide)) fun _ => rfl
  | polyG3R o => exact .polygon _ (polygonOf_gourTri rfl (opSemi_of (op := 0x31#8) (b := false) rfl (by decide)) (opRaw_of (op := 0x31#8) (b := true) rfl (by decide))) (writesVram_of (op := 0x31#8) rfl (by decide)) fun _ => rfl
  | polyG3S o => exact .polygon _ (polygonOf_gourTri rfl (opSemi_of (op := 0x32#8) (b := true) rfl (by decide)) (opRaw_of (op := 0x32#8) (b := false) rfl (by decide))) (writesVram_of (op := 0x32#8) rfl (by decide)) fun _ => rfl
  | polyG3SR o => exact .polygon _ (polygonOf_gourTri rfl (opSemi_of (op := 0x33#8) (b := true) rfl (by decide)) (opRaw_of (op := 0x33#8) (b := true) rfl (by decide))) (writesVram_of (op := 0x33#8) rfl (by decide)) fun _ => rfl
  | polyG3T o => exact .polygon _ (polygonOf_gourTriTex rfl (opSemi_of (op := 0x34#8) (b := false) rfl (by decide)) (opRaw_of (op := 0x34#8) (b := false) rfl (by decide))) (writesVram_of (op := 0x34#8) rfl (by decide)) fun _ => rfl
  | polyG3TR o => exact .polygon _ (polygonOf_gourTriTex rfl (opSemi_of (op := 0x35#8) (b := false) rfl (by decide)) (opRaw_of (op := 0x35#8) (b := true) rfl (by decide))) (writesVram_of (op := 0x35#8) rfl (by decide)) fun _ => rfl
  | polyG3TS o => exact .polygon _ (polygonOf_gourTriTex rfl (opSemi_of (op := 0x36#8) (b := true) rfl (by decide)) (opRaw_of (op := 0x36#8) (b := false) rfl (by decide))) (writesVram_of (op := 0x36#8) rfl (by decide)) fun _ => rfl
  | polyG3TSR o => exact .polygon _ (polygonOf_gourTriTex rfl (opSemi_of (op := 0x37#8) (b := true) rfl (by decide)) (opRaw_of (op := 0x37#8) (b := true) rfl (by decide))) (writesVram_of (op := 0x37#8) rfl (by decide)) fun _ => rfl
  | polyG4 o => exact .polygon _ (polygonOf_gourQuad rfl (opSemi_of (op := 0x38#8) (b := false) rfl (by decide)) (opRaw_of (op := 0x38#8) (b := false) rfl (by decide))) (writesVram_of (op := 0x38#8) rfl (by decide)) fun _ => rfl
  | polyG4R o => exact .polygon _ (polygonOf_gourQuad rfl (opSemi_of (op := 0x39#8) (b := false) rfl (by decide)) (opRaw_of (op := 0x39#8) (b := true) rfl (by decide))) (writesVram_of (op := 0x39#8) rfl (by decide)) fun _ => rfl
  | polyG4S o => exact .polygon _ (polygonOf_gourQuad rfl (opSemi_of (op := 0x3A#8) (b := true) rfl (by decide)) (opRaw_of (op := 0x3A#8) (b := false) rfl (by decide))) (writesVram_of (op := 0x3A#8) rfl (by decide)) fun _ => rfl
  | polyG4SR o => exact .polygon _ (polygonOf_gourQuad rfl (opSemi_of (op := 0x3B#8) (b := true) rfl (by decide)) (opRaw_of (op := 0x3B#8) (b := true) rfl (by decide))) (writesVram_of (op := 0x3B#8) rfl (by decide)) fun _ => rfl
  | polyG4T o => exact .polygon _ (polygonOf_gourQuadTex rfl (opSemi_of (op := 0x3C#8) (b := false) rfl (by decide)) (opRaw_of (op := 0x3C#8) (b := false) rfl (by decide))) (writesVram_of (op := 0x3C#8) rfl (by decide)) fun _ => rfl
  | polyG4TR o => exact .polygon _ (polygonOf_gourQuadTex rfl (opSemi_of (op := 0x3D#8) (b := false) rfl (by decide)) (opRaw_of (op := 0x3D#8) (b := true) rfl (by decide))) (writesVram_of (op := 0x3D#8) rfl (by decide)) fun _ => rfl
  | polyG4TS o => exact .polygon _ (polygonOf_gourQuadTex rfl (opSemi_of (op := 0x3E#8) (b := true) rfl (by decide)) (opRaw_of (op := 0x3E#8) (b := false) rfl (by decide))) (writesVram_of (op := 0x3E#8) rfl (by decide)) fun _ => rfl
  | polyG4TSR o => exact .polygon _ (polygonOf_gourQuadTex rfl (opSemi_of (op := 0x3F#8) (b := true) rfl (by decide)) (opRaw_of (op := 0x3F#8) (b := true) rfl (by decide))) (writesVram_of (op := 0x3F#8) rfl (by decide)) fun _ => rfl
  | lineF o => exact .line _ (lineOf_flatLine rfl (opSemi_of (op := 0x40#8) (b := false) rfl (by decide))) (opPoly_of (op := 0x40#8) rfl (by decide)) (writesVram_of (op := 0x40#8) rfl (by decide)) fun _ => rfl
  | lineFX41 o => exact .line _ (lineOf_flatLine rfl (opSemi_of (op := 0x41#8) (b := false) rfl (by decide))) (opPoly_of (op := 0x41#8) rfl (by decide)) (writesVram_of (op := 0x41#8) rfl (by decide)) fun _ => rfl
  | lineFS o => exact .line _ (lineOf_flatLine rfl (opSemi_of (op := 0x42#8) (b := true) rfl (by decide))) (opPoly_of (op := 0x42#8) rfl (by decide)) (writesVram_of (op := 0x42#8) rfl (by decide)) fun _ => rfl
  | lineFSX43 o => exact .line _ (lineOf_flatLine rfl (opSemi_of (op := 0x43#8) (b := true) rfl (by decide))) (opPoly_of (op := 0x43#8) rfl (by decide)) (writesVram_of (op := 0x43#8) rfl (by decide)) fun _ => rfl
  | lineFX44 o => exact .line _ (lineOf_flatLine rfl (opSemi_of (op := 0x44#8) (b := false) rfl (by decide))) (opPoly_of (op := 0x44#8) rfl (by decide)) (writesVram_of (op := 0x44#8) rfl (by decide)) fun _ => rfl
  | lineFX45 o => exact .line _ (lineOf_flatLine rfl (opSemi_of (op := 0x45#8) (b := false) rfl (by decide))) (opPoly_of (op := 0x45#8) rfl (by decide)) (writesVram_of (op := 0x45#8) rfl (by decide)) fun _ => rfl
  | lineFSX46 o => exact .line _ (lineOf_flatLine rfl (opSemi_of (op := 0x46#8) (b := true) rfl (by decide))) (opPoly_of (op := 0x46#8) rfl (by decide)) (writesVram_of (op := 0x46#8) rfl (by decide)) fun _ => rfl
  | lineFSX47 o => exact .line _ (lineOf_flatLine rfl (opSemi_of (op := 0x47#8) (b := true) rfl (by decide))) (opPoly_of (op := 0x47#8) rfl (by decide)) (writesVram_of (op := 0x47#8) rfl (by decide)) fun _ => rfl
  | plineF o => exact .polyline _ (lineOf_flatLine rfl (opSemi_of (op := 0x48#8) (b := false) rfl (by decide))) (opPoly_of (op := 0x48#8) rfl (by decide)) (writesVram_of (op := 0x48#8) rfl (by decide)) fun _ => by rw [polyKind_of (op := 0x48#8) (k := .polyFlat) rfl (by decide)]; rfl
  | plineFX49 o => exact .polyline _ (lineOf_flatLine rfl (opSemi_of (op := 0x49#8) (b := false) rfl (by decide))) (opPoly_of (op := 0x49#8) rfl (by decide)) (writesVram_of (op := 0x49#8) rfl (by decide)) fun _ => by rw [polyKind_of (op := 0x49#8) (k := .polyFlat) rfl (by decide)]; rfl
  | plineFS o => exact .polyline _ (lineOf_flatLine rfl (opSemi_of (op := 0x4A#8) (b := true) rfl (by decide))) (opPoly_of (op := 0x4A#8) rfl (by decide)) (writesVram_of (op := 0x4A#8) rfl (by decide)) fun _ => by rw [polyKind_of (op := 0x4A#8) (k := .polyFlat) rfl (by decide)]; rfl
  | plineFSX4B o => exact .polyline _ (lineOf_flatLine rfl (opSemi_of (op := 0x4B#8) (b := true) rfl (by decide))) (opPoly_of (op := 0x4B#8) rfl (by decide)) (writesVram_of (op := 0x4B#8) rfl (by decide)) fun _ => by rw [polyKind_of (op := 0x4B#8) (k := .polyFlat) rfl (by decide)]; rfl
  | plineFX4C o => exact .polyline _ (lineOf_flatLine rfl (opSemi_of (op := 0x4C#8) (b := false) rfl (by decide))) (opPoly_of (op := 0x4C#8) rfl (by decide)) (writesVram_of (op := 0x4C#8) rfl (by decide)) fun _ => by rw [polyKind_of (op := 0x4C#8) (k := .polyFlat) rfl (by decide)]; rfl
  | plineFX4D o => exact .polyline _ (lineOf_flatLine rfl (opSemi_of (op := 0x4D#8) (b := false) rfl (by decide))) (opPoly_of (op := 0x4D#8) rfl (by decide)) (writesVram_of (op := 0x4D#8) rfl (by decide)) fun _ => by rw [polyKind_of (op := 0x4D#8) (k := .polyFlat) rfl (by decide)]; rfl
  | plineFSX4E o => exact .polyline _ (lineOf_flatLine rfl (opSemi_of (op := 0x4E#8) (b := true) rfl (by decide))) (opPoly_of (op := 0x4E#8) rfl (by decide)) (writesVram_of (op := 0x4E#8) rfl (by decide)) fun _ => by rw [polyKind_of (op := 0x4E#8) (k := .polyFlat) rfl (by decide)]; rfl
  | plineFSX4F o => exact .polyline _ (lineOf_flatLine rfl (opSemi_of (op := 0x4F#8) (b := true) rfl (by decide))) (opPoly_of (op := 0x4F#8) rfl (by decide)) (writesVram_of (op := 0x4F#8) rfl (by decide)) fun _ => by rw [polyKind_of (op := 0x4F#8) (k := .polyFlat) rfl (by decide)]; rfl
  | lineG o => exact .line _ (lineOf_gourLine rfl (opSemi_of (op := 0x50#8) (b := false) rfl (by decide))) (opPoly_of (op := 0x50#8) rfl (by decide)) (writesVram_of (op := 0x50#8) rfl (by decide)) fun _ => rfl
  | lineGX51 o => exact .line _ (lineOf_gourLine rfl (opSemi_of (op := 0x51#8) (b := false) rfl (by decide))) (opPoly_of (op := 0x51#8) rfl (by decide)) (writesVram_of (op := 0x51#8) rfl (by decide)) fun _ => rfl
  | lineGS o => exact .line _ (lineOf_gourLine rfl (opSemi_of (op := 0x52#8) (b := true) rfl (by decide))) (opPoly_of (op := 0x52#8) rfl (by decide)) (writesVram_of (op := 0x52#8) rfl (by decide)) fun _ => rfl
  | lineGSX53 o => exact .line _ (lineOf_gourLine rfl (opSemi_of (op := 0x53#8) (b := true) rfl (by decide))) (opPoly_of (op := 0x53#8) rfl (by decide)) (writesVram_of (op := 0x53#8) rfl (by decide)) fun _ => rfl
  | lineGX54 o => exact .line _ (lineOf_gourLine rfl (opSemi_of (op := 0x54#8) (b := false) rfl (by decide))) (opPoly_of (op := 0x54#8) rfl (by decide)) (writesVram_of (op := 0x54#8) rfl (by decide)) fun _ => rfl
  | lineGX55 o => exact .line _ (lineOf_gourLine rfl (opSemi_of (op := 0x55#8) (b := false) rfl (by decide))) (opPoly_of (op := 0x55#8) rfl (by decide)) (writesVram_of (op := 0x55#8) rfl (by decide)) fun _ => rfl
  | lineGSX56 o => exact .line _ (lineOf_gourLine rfl (opSemi_of (op := 0x56#8) (b := true) rfl (by decide))) (opPoly_of (op := 0x56#8) rfl (by decide)) (writesVram_of (op := 0x56#8) rfl (by decide)) fun _ => rfl
  | lineGSX57 o => exact .line _ (lineOf_gourLine rfl (opSemi_of (op := 0x57#8) (b := true) rfl (by decide))) (opPoly_of (op := 0x57#8) rfl (by decide)) (writesVram_of (op := 0x57#8) rfl (by decide)) fun _ => rfl
  | plineG o => exact .polyline _ (lineOf_gourLine rfl (opSemi_of (op := 0x58#8) (b := false) rfl (by decide))) (opPoly_of (op := 0x58#8) rfl (by decide)) (writesVram_of (op := 0x58#8) rfl (by decide)) fun _ => by rw [polyKind_of (op := 0x58#8) (k := .polyGouraud) rfl (by decide)]; rfl
  | plineGX59 o => exact .polyline _ (lineOf_gourLine rfl (opSemi_of (op := 0x59#8) (b := false) rfl (by decide))) (opPoly_of (op := 0x59#8) rfl (by decide)) (writesVram_of (op := 0x59#8) rfl (by decide)) fun _ => by rw [polyKind_of (op := 0x59#8) (k := .polyGouraud) rfl (by decide)]; rfl
  | plineGS o => exact .polyline _ (lineOf_gourLine rfl (opSemi_of (op := 0x5A#8) (b := true) rfl (by decide))) (opPoly_of (op := 0x5A#8) rfl (by decide)) (writesVram_of (op := 0x5A#8) rfl (by decide)) fun _ => by rw [polyKind_of (op := 0x5A#8) (k := .polyGouraud) rfl (by decide)]; rfl
  | plineGSX5B o => exact .polyline _ (lineOf_gourLine rfl (opSemi_of (op := 0x5B#8) (b := true) rfl (by decide))) (opPoly_of (op := 0x5B#8) rfl (by decide)) (writesVram_of (op := 0x5B#8) rfl (by decide)) fun _ => by rw [polyKind_of (op := 0x5B#8) (k := .polyGouraud) rfl (by decide)]; rfl
  | plineGX5C o => exact .polyline _ (lineOf_gourLine rfl (opSemi_of (op := 0x5C#8) (b := false) rfl (by decide))) (opPoly_of (op := 0x5C#8) rfl (by decide)) (writesVram_of (op := 0x5C#8) rfl (by decide)) fun _ => by rw [polyKind_of (op := 0x5C#8) (k := .polyGouraud) rfl (by decide)]; rfl
  | plineGX5D o => exact .polyline _ (lineOf_gourLine rfl (opSemi_of (op := 0x5D#8) (b := false) rfl (by decide))) (opPoly_of (op := 0x5D#8) rfl (by decide)) (writesVram_of (op := 0x5D#8) rfl (by decide)) fun _ => by rw [polyKind_of (op := 0x5D#8) (k := .polyGouraud) rfl (by decide)]; rfl
  | plineGSX5E o => exact .polyline _ (lineOf_gourLine rfl (opSemi_of (op := 0x5E#8) (b := true) rfl (by decide))) (opPoly_of (op := 0x5E#8) rfl (by decide)) (writesVram_of (op := 0x5E#8) rfl (by decide)) fun _ => by rw [polyKind_of (op := 0x5E#8) (k := .polyGouraud) rfl (by decide)]; rfl
  | plineGSX5F o => exact .polyline _ (lineOf_gourLine rfl (opSemi_of (op := 0x5F#8) (b := true) rfl (by decide))) (opPoly_of (op := 0x5F#8) rfl (by decide)) (writesVram_of (op := 0x5F#8) rfl (by decide)) fun _ => by rw [polyKind_of (op := 0x5F#8) (k := .polyGouraud) rfl (by decide)]; rfl
  | rectV o => exact .rectangle _ (rectangleOf_rectVar rfl (opSemi_of (op := 0x60#8) (b := false) rfl (by decide)) (opRaw_of (op := 0x60#8) (b := false) rfl (by decide))) (writesVram_of (op := 0x60#8) rfl (by decide)) fun _ => rfl
  | rectVR o => exact .rectangle _ (rectangleOf_rectVar rfl (opSemi_of (op := 0x61#8) (b := false) rfl (by decide)) (opRaw_of (op := 0x61#8) (b := true) rfl (by decide))) (writesVram_of (op := 0x61#8) rfl (by decide)) fun _ => rfl
  | rectVS o => exact .rectangle _ (rectangleOf_rectVar rfl (opSemi_of (op := 0x62#8) (b := true) rfl (by decide)) (opRaw_of (op := 0x62#8) (b := false) rfl (by decide))) (writesVram_of (op := 0x62#8) rfl (by decide)) fun _ => rfl
  | rectVSR o => exact .rectangle _ (rectangleOf_rectVar rfl (opSemi_of (op := 0x63#8) (b := true) rfl (by decide)) (opRaw_of (op := 0x63#8) (b := true) rfl (by decide))) (writesVram_of (op := 0x63#8) rfl (by decide)) fun _ => rfl
  | rectVT o => exact .rectangle _ (rectangleOf_rectVarTex rfl (opSemi_of (op := 0x64#8) (b := false) rfl (by decide)) (opRaw_of (op := 0x64#8) (b := false) rfl (by decide))) (writesVram_of (op := 0x64#8) rfl (by decide)) fun _ => rfl
  | rectVTR o => exact .rectangle _ (rectangleOf_rectVarTex rfl (opSemi_of (op := 0x65#8) (b := false) rfl (by decide)) (opRaw_of (op := 0x65#8) (b := true) rfl (by decide))) (writesVram_of (op := 0x65#8) rfl (by decide)) fun _ => rfl
  | rectVTS o => exact .rectangle _ (rectangleOf_rectVarTex rfl (opSemi_of (op := 0x66#8) (b := true) rfl (by decide)) (opRaw_of (op := 0x66#8) (b := false) rfl (by decide))) (writesVram_of (op := 0x66#8) rfl (by decide)) fun _ => rfl
  | rectVTSR o => exact .rectangle _ (rectangleOf_rectVarTex rfl (opSemi_of (op := 0x67#8) (b := true) rfl (by decide)) (opRaw_of (op := 0x67#8) (b := true) rfl (by decide))) (writesVram_of (op := 0x67#8) rfl (by decide)) fun _ => rfl
  | rect1 o => exact .rectangle _ (rectangleOf_rectFix rfl (rectSide_of (op := 0x68#8) rfl (by decide)) (opSemi_of (op := 0x68#8) (b := false) rfl (by decide)) (opRaw_of (op := 0x68#8) (b := false) rfl (by decide))) (writesVram_of (op := 0x68#8) rfl (by decide)) fun _ => rfl
  | rect1R o => exact .rectangle _ (rectangleOf_rectFix rfl (rectSide_of (op := 0x69#8) rfl (by decide)) (opSemi_of (op := 0x69#8) (b := false) rfl (by decide)) (opRaw_of (op := 0x69#8) (b := true) rfl (by decide))) (writesVram_of (op := 0x69#8) rfl (by decide)) fun _ => rfl
  | rect1S o => exact .rectangle _ (rectangleOf_rectFix rfl (rectSide_of (op := 0x6A#8) rfl (by decide)) (opSemi_of (op := 0x6A#8) (b := true) rfl (by decide)) (opRaw_of (op := 0x6A#8) (b := false) rfl (by decide))) (writesVram_of (op := 0x6A#8) rfl (by decide)) fun _ => rfl
  | rect1SR o => exact .rectangle _ (rectangleOf_rectFix rfl (rectSide_of (op := 0x6B#8) rfl (by decide)) (opSemi_of (op := 0x6B#8) (b := true) rfl (by decide)) (opRaw_of (op := 0x6B#8) (b := true) rfl (by decide))) (writesVram_of (op := 0x6B#8) rfl (by decide)) fun _ => rfl
  | rect1T o => exact .rectangle _ (rectangleOf_rectFixTex rfl (rectSide_of (op := 0x6C#8) rfl (by decide)) (opSemi_of (op := 0x6C#8) (b := false) rfl (by decide)) (opRaw_of (op := 0x6C#8) (b := false) rfl (by decide))) (writesVram_of (op := 0x6C#8) rfl (by decide)) fun _ => rfl
  | rect1TR o => exact .rectangle _ (rectangleOf_rectFixTex rfl (rectSide_of (op := 0x6D#8) rfl (by decide)) (opSemi_of (op := 0x6D#8) (b := false) rfl (by decide)) (opRaw_of (op := 0x6D#8) (b := true) rfl (by decide))) (writesVram_of (op := 0x6D#8) rfl (by decide)) fun _ => rfl
  | rect1TS o => exact .rectangle _ (rectangleOf_rectFixTex rfl (rectSide_of (op := 0x6E#8) rfl (by decide)) (opSemi_of (op := 0x6E#8) (b := true) rfl (by decide)) (opRaw_of (op := 0x6E#8) (b := false) rfl (by decide))) (writesVram_of (op := 0x6E#8) rfl (by decide)) fun _ => rfl
  | rect1TSR o => exact .rectangle _ (rectangleOf_rectFixTex rfl (rectSide_of (op := 0x6F#8) rfl (by decide)) (opSemi_of (op := 0x6F#8) (b := true) rfl (by decide)) (opRaw_of (op := 0x6F#8) (b := true) rfl (by decide))) (writesVram_of (op := 0x6F#8) rfl (by decide)) fun _ => rfl
  | rect8 o => exact .rectangle _ (rectangleOf_rectFix rfl (rectSide_of (op := 0x70#8) rfl (by decide)) (opSemi_of (op := 0x70#8) (b := false) rfl (by decide)) (opRaw_of (op := 0x70#8) (b := false) rfl (by decide))) (writesVram_of (op := 0x70#8) rfl (by decide)) fun _ => rfl
  | rect8R o => exact .rectangle _ (rectangleOf_rectFix rfl (rectSide_of (op := 0x71#8) rfl (by decide)) (opSemi_of (op := 0x71#8) (b := false) rfl (by decide)) (opRaw_of (op := 0x71#8) (b := true) rfl (by decide))) (writesVram_of (op := 0x71#8) rfl (by decide)) fun _ => rfl
  | rect8S o => exact .rectangle _ (rectangleOf_rectFix rfl (rectSide_of (op := 0x72#8) rfl (by decide)) (opSemi_of (op := 0x72#8) (b := true) rfl (by decide)) (opRaw_of (op := 0x72#8) (b := false) rfl (by decide))) (writesVram_of (op := 0x72#8) rfl (by decide)) fun _ => rfl
  | rect8SR o => exact .rectangle _ (rectangleOf_rectFix rfl (rectSide_of (op := 0x73#8) rfl (by decide)) (opSemi_of (op := 0x73#8) (b := true) rfl (by decide)) (opRaw_of (op := 0x73#8) (b := true) rfl (by decide))) (writesVram_of (op := 0x73#8) rfl (by decide)) fun _ => rfl
  | rect8T o => exact .rectangle _ (rectangleOf_rectFixTex rfl (rectSide_of (op := 0x74#8) rfl (by decide)) (opSemi_of (op := 0x74#8) (b := false) rfl (by decide)) (opRaw_of (op := 0x74#8) (b := false) rfl (by decide))) (writesVram_of (op := 0x74#8) rfl (by decide)) fun _ => rfl
  | rect8TR o => exact .rectangle _ (rectangleOf_rectFixTex rfl (rectSide_of (op := 0x75#8) rfl (by decide)) (opSemi_of (op := 0x75#8) (b := false) rfl (by decide)) (opRaw_of (op := 0x75#8) (b := true) rfl (by decide))) (writesVram_of (op := 0x75#8) rfl (by decide)) fun _ => rfl
  | rect8TS o => exact .rectangle _ (rectangleOf_rectFixTex rfl (rectSide_of (op := 0x76#8) rfl (by decide)) (opSemi_of (op := 0x76#8) (b := true) rfl (by decide)) (opRaw_of (op := 0x76#8) (b := false) rfl (by decide))) (writesVram_of (op := 0x76#8) rfl (by decide)) fun _ => rfl
  | rect8TSR o => exact .rectangle _ (rectangleOf_rectFixTex rfl (rectSide_of (op := 0x77#8) rfl (by decide)) (opSemi_of (op := 0x77#8) (b := true) rfl (by decide)) (opRaw_of (op := 0x77#8) (b := true) rfl (by decide))) (writesVram_of (op := 0x77#8) rfl (by decide)) fun _ => rfl
  | rect16 o => exact .rectangle _ (rectangleOf_rectFix rfl (rectSide_of (op := 0x78#8) rfl (by decide)) (opSemi_of (op := 0x78#8) (b := false) rfl (by decide)) (opRaw_of (op := 0x78#8) (b := false) rfl (by decide))) (writesVram_of (op := 0x78#8) rfl (by decide)) fun _ => rfl
  | rect16R o => exact .rectangle _ (rectangleOf_rectFix rfl (rectSide_of (op := 0x79#8) rfl (by decide)) (opSemi_of (op := 0x79#8) (b := false) rfl (by decide)) (opRaw_of (op := 0x79#8) (b := true) rfl (by decide))) (writesVram_of (op := 0x79#8) rfl (by decide)) fun _ => rfl
  | rect16S o => exact .rectangle _ (rectangleOf_rectFix rfl (rectSide_of (op := 0x7A#8) rfl (by decide)) (opSemi_of (op := 0x7A#8) (b := true) rfl (by decide)) (opRaw_of (op := 0x7A#8) (b := false) rfl (by decide))) (writesVram_of (op := 0x7A#8) rfl (by decide)) fun _ => rfl
  | rect16SR o => exact .rectangle _ (rectangleOf_rectFix rfl (rectSide_of (op := 0x7B#8) rfl (by decide)) (opSemi_of (op := 0x7B#8) (b := true) rfl (by decide)) (opRaw_of (op := 0x7B#8) (b := true) rfl (by decide))) (writesVram_of (op := 0x7B#8) rfl (by decide)) fun _ => rfl
  | rect16T o => exact .rectangle _ (rectangleOf_rectFixTex rfl (rectSide_of (op := 0x7C#8) rfl (by decide)) (opSemi_of (op := 0x7C#8) (b := false) rfl (by decide)) (opRaw_of (op := 0x7C#8) (b := false) rfl (by decide))) (writesVram_of (op := 0x7C#8) rfl (by decide)) fun _ => rfl
  | rect16TR o => exact .rectangle _ (rectangleOf_rectFixTex rfl (rectSide_of (op := 0x7D#8) rfl (by decide)) (opSemi_of (op := 0x7D#8) (b := false) rfl (by decide)) (opRaw_of (op := 0x7D#8) (b := true) rfl (by decide))) (writesVram_of (op := 0x7D#8) rfl (by decide)) fun _ => rfl
  | rect16TS o => exact .rectangle _ (rectangleOf_rectFixTex rfl (rectSide_of (op := 0x7E#8) rfl (by decide)) (opSemi_of (op := 0x7E#8) (b := true) rfl (by decide)) (opRaw_of (op := 0x7E#8) (b := false) rfl (by decide))) (writesVram_of (op := 0x7E#8) rfl (by decide)) fun _ => rfl
  | rect16TSR o => exact .rectangle _ (rectangleOf_rectFixTex rfl (rectSide_of (op := 0x7F#8) rfl (by decide)) (opSemi_of (op := 0x7F#8) (b := true) rfl (by decide)) (opRaw_of (op := 0x7F#8) (b := true) rfl (by decide))) (writesVram_of (op := 0x7F#8) rfl (by decide)) fun _ => rfl
  | vcopy o => exact .copy o rfl (writesVram_of (op := 0x80#8) rfl (by decide)) fun _ => rfl
  | vcopyX81 o => exact .copy o rfl (writesVram_of (op := 0x81#8) rfl (by decide)) fun _ => rfl
  | vcopyX82 o => exact .copy o rfl (writesVram_of (op := 0x82#8) rfl (by decide)) fun _ => rfl
  | vcopyX83 o => exact .copy o rfl (writesVram_of (op := 0x83#8) rfl (by decide)) fun _ => rfl
  | vcopyX84 o => exact .copy o rfl (writesVram_of (op := 0x84#8) rfl (by decide)) fun _ => rfl
  | vcopyX85 o => exact .copy o rfl (writesVram_of (op := 0x85#8) rfl (by decide)) fun _ => rfl
  | vcopyX86 o => exact .copy o rfl (writesVram_of (op := 0x86#8) rfl (by decide)) fun _ => rfl
  | vcopyX87 o => exact .copy o rfl (writesVram_of (op := 0x87#8) rfl (by decide)) fun _ => rfl
  | vcopyX88 o => exact .copy o rfl (writesVram_of (op := 0x88#8) rfl (by decide)) fun _ => rfl
  | vcopyX89 o => exact .copy o rfl (writesVram_of (op := 0x89#8) rfl (by decide)) fun _ => rfl
  | vcopyX8A o => exact .copy o rfl (writesVram_of (op := 0x8A#8) rfl (by decide)) fun _ => rfl
  | vcopyX8B o => exact .copy o rfl (writesVram_of (op := 0x8B#8) rfl (by decide)) fun _ => rfl
  | vcopyX8C o => exact .copy o rfl (writesVram_of (op := 0x8C#8) rfl (by decide)) fun _ => rfl
  | vcopyX8D o => exact .copy o rfl (writesVram_of (op := 0x8D#8) rfl (by decide)) fun _ => rfl
  | vcopyX8E o => exact .copy o rfl (writesVram_of (op := 0x8E#8) rfl (by decide)) fun _ => rfl
  | vcopyX8F o => exact .copy o rfl (writesVram_of (op := 0x8F#8) rfl (by decide)) fun _ => rfl
  | vcopyX90 o => exact .copy o rfl (writesVram_of (op := 0x90#8) rfl (by decide)) fun _ => rfl
  | vcopyX91 o => exact .copy o rfl (writesVram_of (op := 0x91#8) rfl (by decide)) fun _ => rfl
  | vcopyX92 o => exact .copy o rfl (writesVram_of (op := 0x92#8) rfl (by decide)) fun _ => rfl
  | vcopyX93 o => exact .copy o rfl (writesVram_of (op := 0x93#8) rfl (by decide)) fun _ => rfl
  | vcopyX94 o => exact .copy o rfl (writesVram_of (op := 0x94#8) rfl (by decide)) fun _ => rfl
  | vcopyX95 o => exact .copy o rfl (writesVram_of (op := 0x95#8) rfl (by decide)) fun _ => rfl
  | vcopyX96 o => exact .copy o rfl (writesVram_of (op := 0x96#8) rfl (by decide)) fun _ => rfl
  | vcopyX97 o => exact .copy o rfl (writesVram_of (op := 0x97#8) rfl (by decide)) fun _ => rfl
  | vcopyX98 o => exact .copy o rfl (writesVram_of (op := 0x98#8) rfl (by decide)) fun _ => rfl
  | vcopyX99 o => exact .copy o rfl (writesVram_of (op := 0x99#8) rfl (by decide)) fun _ => rfl
  | vcopyX9A o => exact .copy o rfl (writesVram_of (op := 0x9A#8) rfl (by decide)) fun _ => rfl
  | vcopyX9B o => exact .copy o rfl (writesVram_of (op := 0x9B#8) rfl (by decide)) fun _ => rfl
  | vcopyX9C o => exact .copy o rfl (writesVram_of (op := 0x9C#8) rfl (by decide)) fun _ => rfl
  | vcopyX9D o => exact .copy o rfl (writesVram_of (op := 0x9D#8) rfl (by decide)) fun _ => rfl
  | vcopyX9E o => exact .copy o rfl (writesVram_of (op := 0x9E#8) rfl (by decide)) fun _ => rfl
  | vcopyX9F o => exact .copy o rfl (writesVram_of (op := 0x9F#8) rfl (by decide)) fun _ => rfl
  | imgin o => exact .imageIn o rfl (opClass_of (op := 0xA0#8) rfl (by decide)) (writesVram_of (op := 0xA0#8) rfl (by decide)) fun _ => rfl
  | imginXA1 o => exact .imageIn o rfl (opClass_of (op := 0xA1#8) rfl (by decide)) (writesVram_of (op := 0xA1#8) rfl (by decide)) fun _ => rfl
  | imginXA2 o => exact .imageIn o rfl (opClass_of (op := 0xA2#8) rfl (by decide)) (writesVram_of (op := 0xA2#8) rfl (by decide)) fun _ => rfl
  | imginXA3 o => exact .imageIn o rfl (opClass_of (op := 0xA3#8) rfl (by decide)) (writesVram_of (op := 0xA3#8) rfl (by decide)) fun _ => rfl
  | imginXA4 o => exact .imageIn o rfl (opClass_of (op := 0xA4#8) rfl (by decide)) (writesVram_of (op := 0xA4#8) rfl (by decide)) fun _ => rfl
  | imginXA5 o => exact .imageIn o rfl (opClass_of (op := 0xA5#8) rfl (by decide)) (writesVram_of (op := 0xA5#8) rfl (by decide)) fun _ => rfl
  | imginXA6 o => exact .imageIn o rfl (opClass_of (op := 0xA6#8) rfl (by decide)) (writesVram_of (op := 0xA6#8) rfl (by decide)) fun _ => rfl
  | imginXA7 o => exact .imageIn o rfl (opClass_of (op := 0xA7#8) rfl (by decide)) (writesVram_of (op := 0xA7#8) rfl (by decide)) fun _ => rfl
  | imginXA8 o => exact .imageIn o rfl (opClass_of (op := 0xA8#8) rfl (by decide)) (writesVram_of (op := 0xA8#8) rfl (by decide)) fun _ => rfl
  | imginXA9 o => exact .imageIn o rfl (opClass_of (op := 0xA9#8) rfl (by decide)) (writesVram_of (op := 0xA9#8) rfl (by decide)) fun _ => rfl
  | imginXAA o => exact .imageIn o rfl (opClass_of (op := 0xAA#8) rfl (by decide)) (writesVram_of (op := 0xAA#8) rfl (by decide)) fun _ => rfl
  | imginXAB o => exact .imageIn o rfl (opClass_of (op := 0xAB#8) rfl (by decide)) (writesVram_of (op := 0xAB#8) rfl (by decide)) fun _ => rfl
  | imginXAC o => exact .imageIn o rfl (opClass_of (op := 0xAC#8) rfl (by decide)) (writesVram_of (op := 0xAC#8) rfl (by decide)) fun _ => rfl
  | imginXAD o => exact .imageIn o rfl (opClass_of (op := 0xAD#8) rfl (by decide)) (writesVram_of (op := 0xAD#8) rfl (by decide)) fun _ => rfl
  | imginXAE o => exact .imageIn o rfl (opClass_of (op := 0xAE#8) rfl (by decide)) (writesVram_of (op := 0xAE#8) rfl (by decide)) fun _ => rfl
  | imginXAF o => exact .imageIn o rfl (opClass_of (op := 0xAF#8) rfl (by decide)) (writesVram_of (op := 0xAF#8) rfl (by decide)) fun _ => rfl
  | imginXB0 o => exact .imageIn o rfl (opClass_of (op := 0xB0#8) rfl (by decide)) (writesVram_of (op := 0xB0#8) rfl (by decide)) fun _ => rfl
  | imginXB1 o => exact .imageIn o rfl (opClass_of (op := 0xB1#8) rfl (by decide)) (writesVram_of (op := 0xB1#8) rfl (by decide)) fun _ => rfl
  | imginXB2 o => exact .imageIn o rfl (opClass_of (op := 0xB2#8) rfl (by decide)) (writesVram_of (op := 0xB2#8) rfl (by decide)) fun _ => rfl
  | imginXB3 o => exact .imageIn o rfl (opClass_of (op := 0xB3#8) rfl (by decide)) (writesVram_of (op := 0xB3#8) rfl (by decide)) fun _ => rfl
  | imginXB4 o => exact .imageIn o rfl (opClass_of (op := 0xB4#8) rfl (by decide)) (writesVram_of (op := 0xB4#8) rfl (by decide)) fun _ => rfl
  | imginXB5 o => exact .imageIn o rfl (opClass_of (op := 0xB5#8) rfl (by decide)) (writesVram_of (op := 0xB5#8) rfl (by decide)) fun _ => rfl
  | imginXB6 o => exact .imageIn o rfl (opClass_of (op := 0xB6#8) rfl (by decide)) (writesVram_of (op := 0xB6#8) rfl (by decide)) fun _ => rfl
  | imginXB7 o => exact .imageIn o rfl (opClass_of (op := 0xB7#8) rfl (by decide)) (writesVram_of (op := 0xB7#8) rfl (by decide)) fun _ => rfl
  | imginXB8 o => exact .imageIn o rfl (opClass_of (op := 0xB8#8) rfl (by decide)) (writesVram_of (op := 0xB8#8) rfl (by decide)) fun _ => rfl
  | imginXB9 o => exact .imageIn o rfl (opClass_of (op := 0xB9#8) rfl (by decide)) (writesVram_of (op := 0xB9#8) rfl (by decide)) fun _ => rfl
  | imginXBA o => exact .imageIn o rfl (opClass_of (op := 0xBA#8) rfl (by decide)) (writesVram_of (op := 0xBA#8) rfl (by decide)) fun _ => rfl
  | imginXBB o => exact .imageIn o rfl (opClass_of (op := 0xBB#8) rfl (by decide)) (writesVram_of (op := 0xBB#8) rfl (by decide)) fun _ => rfl
  | imginXBC o => exact .imageIn o rfl (opClass_of (op := 0xBC#8) rfl (by decide)) (writesVram_of (op := 0xBC#8) rfl (by decide)) fun _ => rfl
  | imginXBD o => exact .imageIn o rfl (opClass_of (op := 0xBD#8) rfl (by decide)) (writesVram_of (op := 0xBD#8) rfl (by decide)) fun _ => rfl
  | imginXBE o => exact .imageIn o rfl (opClass_of (op := 0xBE#8) rfl (by decide)) (writesVram_of (op := 0xBE#8) rfl (by decide)) fun _ => rfl
  | imginXBF o => exact .imageIn o rfl (opClass_of (op := 0xBF#8) rfl (by decide)) (writesVram_of (op := 0xBF#8) rfl (by decide)) fun _ => rfl
  | imgout o => exact .imageOut o rfl (opClass_of (op := 0xC0#8) rfl (by decide)) (writesVram_of (op := 0xC0#8) rfl (by decide)) fun _ => rfl
  | imgoutXC1 o => exact .imageOut o rfl (opClass_of (op := 0xC1#8) rfl (by decide)) (writesVram_of (op := 0xC1#8) rfl (by decide)) fun _ => rfl
  | imgoutXC2 o => exact .imageOut o rfl (opClass_of (op := 0xC2#8) rfl (by decide)) (writesVram_of (op := 0xC2#8) rfl (by decide)) fun _ => rfl
  | imgoutXC3 o => exact .imageOut o rfl (opClass_of (op := 0xC3#8) rfl (by decide)) (writesVram_of (op := 0xC3#8) rfl (by decide)) fun _ => rfl
  | imgoutXC4 o => exact .imageOut o rfl (opClass_of (op := 0xC4#8) rfl (by decide)) (writesVram_of (op := 0xC4#8) rfl (by decide)) fun _ => rfl
  | imgoutXC5 o => exact .imageOut o rfl (opClass_of (op := 0xC5#8) rfl (by decide)) (writesVram_of (op := 0xC5#8) rfl (by decide)) fun _ => rfl
  | imgoutXC6 o => exact .imageOut o rfl (opClass_of (op := 0xC6#8) rfl (by decide)) (writesVram_of (op := 0xC6#8) rfl (by decide)) fun _ => rfl
  | imgoutXC7 o => exact .imageOut o rfl (opClass_of (op := 0xC7#8) rfl (by decide)) (writesVram_of (op := 0xC7#8) rfl (by decide)) fun _ => rfl
  | imgoutXC8 o => exact .imageOut o rfl (opClass_of (op := 0xC8#8) rfl (by decide)) (writesVram_of (op := 0xC8#8) rfl (by decide)) fun _ => rfl
  | imgoutXC9 o => exact .imageOut o rfl (opClass_of (op := 0xC9#8) rfl (by decide)) (writesVram_of (op := 0xC9#8) rfl (by decide)) fun _ => rfl
  | imgoutXCA o => exact .imageOut o rfl (opClass_of (op := 0xCA#8) rfl (by decide)) (writesVram_of (op := 0xCA#8) rfl (by decide)) fun _ => rfl
  | imgoutXCB o => exact .imageOut o rfl (opClass_of (op := 0xCB#8) rfl (by decide)) (writesVram_of (op := 0xCB#8) rfl (by decide)) fun _ => rfl
  | imgoutXCC o => exact .imageOut o rfl (opClass_of (op := 0xCC#8) rfl (by decide)) (writesVram_of (op := 0xCC#8) rfl (by decide)) fun _ => rfl
  | imgoutXCD o => exact .imageOut o rfl (opClass_of (op := 0xCD#8) rfl (by decide)) (writesVram_of (op := 0xCD#8) rfl (by decide)) fun _ => rfl
  | imgoutXCE o => exact .imageOut o rfl (opClass_of (op := 0xCE#8) rfl (by decide)) (writesVram_of (op := 0xCE#8) rfl (by decide)) fun _ => rfl
  | imgoutXCF o => exact .imageOut o rfl (opClass_of (op := 0xCF#8) rfl (by decide)) (writesVram_of (op := 0xCF#8) rfl (by decide)) fun _ => rfl
  | imgoutXD0 o => exact .imageOut o rfl (opClass_of (op := 0xD0#8) rfl (by decide)) (writesVram_of (op := 0xD0#8) rfl (by decide)) fun _ => rfl
  | imgoutXD1 o => exact .imageOut o rfl (opClass_of (op := 0xD1#8) rfl (by decide)) (writesVram_of (op := 0xD1#8) rfl (by decide)) fun _ => rfl
  | imgoutXD2 o => exact .imageOut o rfl (opClass_of (op := 0xD2#8) rfl (by decide)) (writesVram_of (op := 0xD2#8) rfl (by decide)) fun _ => rfl
  | imgoutXD3 o => exact .imageOut o rfl (opClass_of (op := 0xD3#8) rfl (by decide)) (writesVram_of (op := 0xD3#8) rfl (by decide)) fun _ => rfl
  | imgoutXD4 o => exact .imageOut o rfl (opClass_of (op := 0xD4#8) rfl (by decide)) (writesVram_of (op := 0xD4#8) rfl (by decide)) fun _ => rfl
  | imgoutXD5 o => exact .imageOut o rfl (opClass_of (op := 0xD5#8) rfl (by decide)) (writesVram_of (op := 0xD5#8) rfl (by decide)) fun _ => rfl
  | imgoutXD6 o => exact .imageOut o rfl (opClass_of (op := 0xD6#8) rfl (by decide)) (writesVram_of (op := 0xD6#8) rfl (by decide)) fun _ => rfl
  | imgoutXD7 o => exact .imageOut o rfl (opClass_of (op := 0xD7#8) rfl (by decide)) (writesVram_of (op := 0xD7#8) rfl (by decide)) fun _ => rfl
  | imgoutXD8 o => exact .imageOut o rfl (opClass_of (op := 0xD8#8) rfl (by decide)) (writesVram_of (op := 0xD8#8) rfl (by decide)) fun _ => rfl
  | imgoutXD9 o => exact .imageOut o rfl (opClass_of (op := 0xD9#8) rfl (by decide)) (writesVram_of (op := 0xD9#8) rfl (by decide)) fun _ => rfl
  | imgoutXDA o => exact .imageOut o rfl (opClass_of (op := 0xDA#8) rfl (by decide)) (writesVram_of (op := 0xDA#8) rfl (by decide)) fun _ => rfl
  | imgoutXDB o => exact .imageOut o rfl (opClass_of (op := 0xDB#8) rfl (by decide)) (writesVram_of (op := 0xDB#8) rfl (by decide)) fun _ => rfl
  | imgoutXDC o => exact .imageOut o rfl (opClass_of (op := 0xDC#8) rfl (by decide)) (writesVram_of (op := 0xDC#8) rfl (by decide)) fun _ => rfl
  | imgoutXDD o => exact .imageOut o rfl (opClass_of (op := 0xDD#8) rfl (by decide)) (writesVram_of (op := 0xDD#8) rfl (by decide)) fun _ => rfl
  | imgoutXDE o => exact .imageOut o rfl (opClass_of (op := 0xDE#8) rfl (by decide)) (writesVram_of (op := 0xDE#8) rfl (by decide)) fun _ => rfl
  | imgoutXDF o => exact .imageOut o rfl (opClass_of (op := 0xDF#8) rfl (by decide)) (writesVram_of (op := 0xDF#8) rfl (by decide)) fun _ => rfl
  | rsvdE0 => exact .keeps rfl (writesVram_of (op := 0xE0#8) rfl (by decide)) fun _ => rfl
  | setmode o => exact .setmode o rfl
  | settw o => exact .settw o rfl
  | setclip1 o => exact .setclip1 o rfl
  | setclip2 o => exact .setclip2 o rfl
  | setofs o => exact .setofs o rfl
  | setmask o => exact .setmask o rfl
  | rsvdE7 => exact .keeps rfl (writesVram_of (op := 0xE7#8) rfl (by decide)) fun _ => rfl
  | rsvdE8 => exact .keeps rfl (writesVram_of (op := 0xE8#8) rfl (by decide)) fun _ => rfl
  | rsvdE9 => exact .keeps rfl (writesVram_of (op := 0xE9#8) rfl (by decide)) fun _ => rfl
  | rsvdEA => exact .keeps rfl (writesVram_of (op := 0xEA#8) rfl (by decide)) fun _ => rfl
  | rsvdEB => exact .keeps rfl (writesVram_of (op := 0xEB#8) rfl (by decide)) fun _ => rfl
  | rsvdEC => exact .keeps rfl (writesVram_of (op := 0xEC#8) rfl (by decide)) fun _ => rfl
  | rsvdED => exact .keeps rfl (writesVram_of (op := 0xED#8) rfl (by decide)) fun _ => rfl
  | rsvdEE => exact .keeps rfl (writesVram_of (op := 0xEE#8) rfl (by decide)) fun _ => rfl
  | rsvdEF => exact .keeps rfl (writesVram_of (op := 0xEF#8) rfl (by decide)) fun _ => rfl
  | rsvdF0 => exact .keeps rfl (writesVram_of (op := 0xF0#8) rfl (by decide)) fun _ => rfl
  | rsvdF1 => exact .keeps rfl (writesVram_of (op := 0xF1#8) rfl (by decide)) fun _ => rfl
  | rsvdF2 => exact .keeps rfl (writesVram_of (op := 0xF2#8) rfl (by decide)) fun _ => rfl
  | rsvdF3 => exact .keeps rfl (writesVram_of (op := 0xF3#8) rfl (by decide)) fun _ => rfl
  | rsvdF4 => exact .keeps rfl (writesVram_of (op := 0xF4#8) rfl (by decide)) fun _ => rfl
  | rsvdF5 => exact .keeps rfl (writesVram_of (op := 0xF5#8) rfl (by decide)) fun _ => rfl
  | rsvdF6 => exact .keeps rfl (writesVram_of (op := 0xF6#8) rfl (by decide)) fun _ => rfl
  | rsvdF7 => exact .keeps rfl (writesVram_of (op := 0xF7#8) rfl (by decide)) fun _ => rfl
  | rsvdF8 => exact .keeps rfl (writesVram_of (op := 0xF8#8) rfl (by decide)) fun _ => rfl
  | rsvdF9 => exact .keeps rfl (writesVram_of (op := 0xF9#8) rfl (by decide)) fun _ => rfl
  | rsvdFA => exact .keeps rfl (writesVram_of (op := 0xFA#8) rfl (by decide)) fun _ => rfl
  | rsvdFB => exact .keeps rfl (writesVram_of (op := 0xFB#8) rfl (by decide)) fun _ => rfl
  | rsvdFC => exact .keeps rfl (writesVram_of (op := 0xFC#8) rfl (by decide)) fun _ => rfl
  | rsvdFD => exact .keeps rfl (writesVram_of (op := 0xFD#8) rfl (by decide)) fun _ => rfl
  | rsvdFE => exact .keeps rfl (writesVram_of (op := 0xFE#8) rfl (by decide)) fun _ => rfl
  | rsvdFF => exact .keeps rfl (writesVram_of (op := 0xFF#8) rfl (by decide)) fun _ => rfl
  | g1Reset => exact .g1Reset rfl
  | g1Abort => exact .g1Abort rfl
  | g1Ack => exact .keeps rfl (writesVram_gp1 (op := 0x02#8) rfl) fun _ => rfl
  | g1Dispen o => exact .g1Dispen o rfl
  | g1Dmadir o => exact .g1Dmadir o rfl
  | g1Origin o => exact .g1Origin o rfl
  | g1Hrange o => exact .g1Hrange o rfl
  | g1Vrange o => exact .g1Vrange o rfl
  | g1Mode o => exact .g1Mode o rfl
  | g1Rsvd09 => exact .keeps rfl (writesVram_gp1 (op := 0x09#8) rfl) fun _ => rfl
  | g1Rsvd0A => exact .keeps rfl (writesVram_gp1 (op := 0x0A#8) rfl) fun _ => rfl
  | g1Rsvd0B => exact .keeps rfl (writesVram_gp1 (op := 0x0B#8) rfl) fun _ => rfl
  | g1Rsvd0C => exact .keeps rfl (writesVram_gp1 (op := 0x0C#8) rfl) fun _ => rfl
  | g1Rsvd0D => exact .keeps rfl (writesVram_gp1 (op := 0x0D#8) rfl) fun _ => rfl
  | g1Rsvd0E => exact .keeps rfl (writesVram_gp1 (op := 0x0E#8) rfl) fun _ => rfl
  | g1Rsvd0F => exact .keeps rfl (writesVram_gp1 (op := 0x0F#8) rfl) fun _ => rfl
  | g1Info o => exact .info o rfl (writesVram_gp1 (op := 0x10#8) rfl) fun _ => rfl
  | g1InfoX11 o => exact .info o rfl (writesVram_gp1 (op := 0x11#8) rfl) fun _ => rfl
  | g1InfoX12 o => exact .info o rfl (writesVram_gp1 (op := 0x12#8) rfl) fun _ => rfl
  | g1InfoX13 o => exact .info o rfl (writesVram_gp1 (op := 0x13#8) rfl) fun _ => rfl
  | g1InfoX14 o => exact .info o rfl (writesVram_gp1 (op := 0x14#8) rfl) fun _ => rfl
  | g1InfoX15 o => exact .info o rfl (writesVram_gp1 (op := 0x15#8) rfl) fun _ => rfl
  | g1InfoX16 o => exact .info o rfl (writesVram_gp1 (op := 0x16#8) rfl) fun _ => rfl
  | g1InfoX17 o => exact .info o rfl (writesVram_gp1 (op := 0x17#8) rfl) fun _ => rfl
  | g1InfoX18 o => exact .info o rfl (writesVram_gp1 (op := 0x18#8) rfl) fun _ => rfl
  | g1InfoX19 o => exact .info o rfl (writesVram_gp1 (op := 0x19#8) rfl) fun _ => rfl
  | g1InfoX1A o => exact .info o rfl (writesVram_gp1 (op := 0x1A#8) rfl) fun _ => rfl
  | g1InfoX1B o => exact .info o rfl (writesVram_gp1 (op := 0x1B#8) rfl) fun _ => rfl
  | g1InfoX1C o => exact .info o rfl (writesVram_gp1 (op := 0x1C#8) rfl) fun _ => rfl
  | g1InfoX1D o => exact .info o rfl (writesVram_gp1 (op := 0x1D#8) rfl) fun _ => rfl
  | g1InfoX1E o => exact .info o rfl (writesVram_gp1 (op := 0x1E#8) rfl) fun _ => rfl
  | g1InfoX1F o => exact .info o rfl (writesVram_gp1 (op := 0x1F#8) rfl) fun _ => rfl
  | g1Rsvd20 => exact .keeps rfl (writesVram_gp1 (op := 0x20#8) rfl) fun _ => rfl
  | g1Rsvd21 => exact .keeps rfl (writesVram_gp1 (op := 0x21#8) rfl) fun _ => rfl
  | g1Rsvd22 => exact .keeps rfl (writesVram_gp1 (op := 0x22#8) rfl) fun _ => rfl
  | g1Rsvd23 => exact .keeps rfl (writesVram_gp1 (op := 0x23#8) rfl) fun _ => rfl
  | g1Rsvd24 => exact .keeps rfl (writesVram_gp1 (op := 0x24#8) rfl) fun _ => rfl
  | g1Rsvd25 => exact .keeps rfl (writesVram_gp1 (op := 0x25#8) rfl) fun _ => rfl
  | g1Rsvd26 => exact .keeps rfl (writesVram_gp1 (op := 0x26#8) rfl) fun _ => rfl
  | g1Rsvd27 => exact .keeps rfl (writesVram_gp1 (op := 0x27#8) rfl) fun _ => rfl
  | g1Rsvd28 => exact .keeps rfl (writesVram_gp1 (op := 0x28#8) rfl) fun _ => rfl
  | g1Rsvd29 => exact .keeps rfl (writesVram_gp1 (op := 0x29#8) rfl) fun _ => rfl
  | g1Rsvd2A => exact .keeps rfl (writesVram_gp1 (op := 0x2A#8) rfl) fun _ => rfl
  | g1Rsvd2B => exact .keeps rfl (writesVram_gp1 (op := 0x2B#8) rfl) fun _ => rfl
  | g1Rsvd2C => exact .keeps rfl (writesVram_gp1 (op := 0x2C#8) rfl) fun _ => rfl
  | g1Rsvd2D => exact .keeps rfl (writesVram_gp1 (op := 0x2D#8) rfl) fun _ => rfl
  | g1Rsvd2E => exact .keeps rfl (writesVram_gp1 (op := 0x2E#8) rfl) fun _ => rfl
  | g1Rsvd2F => exact .keeps rfl (writesVram_gp1 (op := 0x2F#8) rfl) fun _ => rfl
  | g1Rsvd30 => exact .keeps rfl (writesVram_gp1 (op := 0x30#8) rfl) fun _ => rfl
  | g1Rsvd31 => exact .keeps rfl (writesVram_gp1 (op := 0x31#8) rfl) fun _ => rfl
  | g1Rsvd32 => exact .keeps rfl (writesVram_gp1 (op := 0x32#8) rfl) fun _ => rfl
  | g1Rsvd33 => exact .keeps rfl (writesVram_gp1 (op := 0x33#8) rfl) fun _ => rfl
  | g1Rsvd34 => exact .keeps rfl (writesVram_gp1 (op := 0x34#8) rfl) fun _ => rfl
  | g1Rsvd35 => exact .keeps rfl (writesVram_gp1 (op := 0x35#8) rfl) fun _ => rfl
  | g1Rsvd36 => exact .keeps rfl (writesVram_gp1 (op := 0x36#8) rfl) fun _ => rfl
  | g1Rsvd37 => exact .keeps rfl (writesVram_gp1 (op := 0x37#8) rfl) fun _ => rfl
  | g1Rsvd38 => exact .keeps rfl (writesVram_gp1 (op := 0x38#8) rfl) fun _ => rfl
  | g1Rsvd39 => exact .keeps rfl (writesVram_gp1 (op := 0x39#8) rfl) fun _ => rfl
  | g1Rsvd3A => exact .keeps rfl (writesVram_gp1 (op := 0x3A#8) rfl) fun _ => rfl
  | g1Rsvd3B => exact .keeps rfl (writesVram_gp1 (op := 0x3B#8) rfl) fun _ => rfl
  | g1Rsvd3C => exact .keeps rfl (writesVram_gp1 (op := 0x3C#8) rfl) fun _ => rfl
  | g1Rsvd3D => exact .keeps rfl (writesVram_gp1 (op := 0x3D#8) rfl) fun _ => rfl
  | g1Rsvd3E => exact .keeps rfl (writesVram_gp1 (op := 0x3E#8) rfl) fun _ => rfl
  | g1Rsvd3F => exact .keeps rfl (writesVram_gp1 (op := 0x3F#8) rfl) fun _ => rfl

/-- An instruction has one operand layout only. -/
theorem operandsOf_disjoint (i : Instr) :
    (∀ c, polygonOf i = some c → rectangleOf i = none ∧ lineOf i = none ∧ i.operands ≠ .none) ∧
    (∀ c, rectangleOf i = some c → polygonOf i = none ∧ lineOf i = none ∧ i.operands ≠ .none) ∧
    (∀ c, lineOf i = some c → polygonOf i = none ∧ rectangleOf i = none ∧ i.operands ≠ .none) := by
  unfold polygonOf rectangleOf lineOf
  cases i.operands <;> simp

theorem exec_polygon {i : Instr} {c : PolyCmd} (h : polygonOf i = some c) (s : State) :
    exec i s = .next (locked (polygon c) s) := by
  have hd := (operandsOf_disjoint i).1 c h
  cases execForm i with
  | polygon c' hc _ he => rw [h] at hc; cases hc; exact he s
  | keeps ho => exact absurd ho hd.2.2
  | rectangle c' hc => rw [hd.1] at hc; cases hc
  | line c' hc => rw [hd.2.1] at hc; cases hc
  | polyline c' hc => rw [hd.2.1] at hc; cases hc
  | copy o ho => simp [polygonOf, ho] at h
  | imageIn o ho => simp [polygonOf, ho] at h
  | imageOut o ho => simp [polygonOf, ho] at h
  | info o ho => simp [polygonOf, ho] at h
  | _ => subst i; simp [polygonOf, Instr.operands] at h

theorem exec_rectangle {i : Instr} {c : RectCmd} (h : rectangleOf i = some c) (s : State) :
    exec i s = .next (locked (rectangle c) s) := by
  have hd := (operandsOf_disjoint i).2.1 c h
  cases execForm i with
  | rectangle c' hc _ he => rw [h] at hc; cases hc; exact he s
  | keeps ho => exact absurd ho hd.2.2
  | polygon c' hc => rw [hd.1] at hc; cases hc
  | line c' hc => rw [hd.2.1] at hc; cases hc
  | polyline c' hc => rw [hd.2.1] at hc; cases hc
  | copy o ho => simp [rectangleOf, ho] at h
  | imageIn o ho => simp [rectangleOf, ho] at h
  | imageOut o ho => simp [rectangleOf, ho] at h
  | info o ho => simp [rectangleOf, ho] at h
  | _ => subst i; simp [rectangleOf, Instr.operands] at h

theorem exec_lineOrPolyline {i : Instr} {c : LineCmd} (h : lineOf i = some c) (s : State) :
    exec i s = .next (locked (if opPoly i then polyline (polyKind i) c else line c) s) := by
  have hd := (operandsOf_disjoint i).2.2 c h
  cases execForm i with
  | line c' hc hp _ he => rw [h] at hc; cases hc; rw [hp]; exact he s
  | polyline c' hc hp _ he => rw [h] at hc; cases hc; rw [hp]; exact he s
  | keeps ho => exact absurd ho hd.2.2
  | polygon c' hc => rw [hd.1] at hc; cases hc
  | rectangle c' hc => rw [hd.2.1] at hc; cases hc
  | copy o ho => simp [lineOf, ho] at h
  | imageIn o ho => simp [lineOf, ho] at h
  | imageOut o ho => simp [lineOf, ho] at h
  | info o ho => simp [lineOf, ho] at h
  | _ => subst i; simp [lineOf, Instr.operands] at h

end Sys2Proof.Machine
end

