-- ==== Sys2Proof/Laws/PerInstr.lean ====
section
/-! SUPPORT. What holds of every instruction as syntax, one lemma per constructor of `Instr`: the encoding has as many
words as the opcode's `LEN` says (R111) and its first word holds the opcode where the port looks for it (R110). -/

namespace Sys2Proof

theorem opcodeOf_cmd (op : BitVec 8) (par : BitVec 24) : opcodeOf (cmd op par) = op := by
  simp only [opcodeOf, field, cmd]
  ext i hi
  simp only [BitVec.getElem_extractLsb', BitVec.getLsbD_append]
  simp [BitVec.getLsbD_eq_getElem hi]

theorem gp1OpcodeOf_cmd (op : BitVec 8) (par : BitVec 24) : gp1OpcodeOf (cmd op par) = op.setWidth 6 := by
  simp only [gp1OpcodeOf, field, cmd]
  ext i hi
  simp only [BitVec.getElem_extractLsb', BitVec.getLsbD_append, BitVec.getElem_setWidth]
  simp

namespace Laws.EncodedShape

/-- The number of words and the opcode of an instruction's encoding (R110, R111, R127). -/
def Statement (i : Instr) : Prop :=
  match i.port with
  | .gp0 => (encode i).length = opLen i.opcode ∧ opcodeOf (wordAt (encode i) 0) = i.opcode
  | .gp1 => (encode i).length = 1 ∧ gp1OpcodeOf (wordAt (encode i) 0) = i.opcode.setWidth 6

theorem nop : Statement (.nop) := ⟨(by decide : 1 = opLen 0x00#8), opcodeOf_cmd _ _⟩
theorem flush : Statement (.flush) := ⟨(by decide : 1 = opLen 0x01#8), opcodeOf_cmd _ _⟩
theorem fill (o : Fill) : Statement (.fill o) := ⟨(by decide : 3 = opLen 0x02#8), opcodeOf_cmd _ _⟩
theorem rsvd03 : Statement (.rsvd03) := ⟨(by decide : 1 = opLen 0x03#8), opcodeOf_cmd _ _⟩
theorem rsvd04 : Statement (.rsvd04) := ⟨(by decide : 1 = opLen 0x04#8), opcodeOf_cmd _ _⟩
theorem rsvd05 : Statement (.rsvd05) := ⟨(by decide : 1 = opLen 0x05#8), opcodeOf_cmd _ _⟩
theorem rsvd06 : Statement (.rsvd06) := ⟨(by decide : 1 = opLen 0x06#8), opcodeOf_cmd _ _⟩
theorem rsvd07 : Statement (.rsvd07) := ⟨(by decide : 1 = opLen 0x07#8), opcodeOf_cmd _ _⟩
theorem rsvd08 : Statement (.rsvd08) := ⟨(by decide : 1 = opLen 0x08#8), opcodeOf_cmd _ _⟩
theorem rsvd09 : Statement (.rsvd09) := ⟨(by decide : 1 = opLen 0x09#8), opcodeOf_cmd _ _⟩
theorem rsvd0A : Statement (.rsvd0A) := ⟨(by decide : 1 = opLen 0x0A#8), opcodeOf_cmd _ _⟩
theorem rsvd0B : Statement (.rsvd0B) := ⟨(by decide : 1 = opLen 0x0B#8), opcodeOf_cmd _ _⟩
theorem rsvd0C : Statement (.rsvd0C) := ⟨(by decide : 1 = opLen 0x0C#8), opcodeOf_cmd _ _⟩
theorem rsvd0D : Statement (.rsvd0D) := ⟨(by decide : 1 = opLen 0x0D#8), opcodeOf_cmd _ _⟩
theorem rsvd0E : Statement (.rsvd0E) := ⟨(by decide : 1 = opLen 0x0E#8), opcodeOf_cmd _ _⟩
theorem rsvd0F : Statement (.rsvd0F) := ⟨(by decide : 1 = opLen 0x0F#8), opcodeOf_cmd _ _⟩
theorem rsvd10 : Statement (.rsvd10) := ⟨(by decide : 1 = opLen 0x10#8), opcodeOf_cmd _ _⟩
theorem rsvd11 : Statement (.rsvd11) := ⟨(by decide : 1 = opLen 0x11#8), opcodeOf_cmd _ _⟩
theorem rsvd12 : Statement (.rsvd12) := ⟨(by decide : 1 = opLen 0x12#8), opcodeOf_cmd _ _⟩
theorem rsvd13 : Statement (.rsvd13) := ⟨(by decide : 1 = opLen 0x13#8), opcodeOf_cmd _ _⟩
theorem rsvd14 : Statement (.rsvd14) := ⟨(by decide : 1 = opLen 0x14#8), opcodeOf_cmd _ _⟩
theorem rsvd15 : Statement (.rsvd15) := ⟨(by decide : 1 = opLen 0x15#8), opcodeOf_cmd _ _⟩
theorem rsvd16 : Statement (.rsvd16) := ⟨(by decide : 1 = opLen 0x16#8), opcodeOf_cmd _ _⟩
theorem rsvd17 : Statement (.rsvd17) := ⟨(by decide : 1 = opLen 0x17#8), opcodeOf_cmd _ _⟩
theorem rsvd18 : Statement (.rsvd18) := ⟨(by decide : 1 = opLen 0x18#8), opcodeOf_cmd _ _⟩
theorem rsvd19 : Statement (.rsvd19) := ⟨(by decide : 1 = opLen 0x19#8), opcodeOf_cmd _ _⟩
theorem rsvd1A : Statement (.rsvd1A) := ⟨(by decide : 1 = opLen 0x1A#8), opcodeOf_cmd _ _⟩
theorem rsvd1B : Statement (.rsvd1B) := ⟨(by decide : 1 = opLen 0x1B#8), opcodeOf_cmd _ _⟩
theorem rsvd1C : Statement (.rsvd1C) := ⟨(by decide : 1 = opLen 0x1C#8), opcodeOf_cmd _ _⟩
theorem rsvd1D : Statement (.rsvd1D) := ⟨(by decide : 1 = opLen 0x1D#8), opcodeOf_cmd _ _⟩
theorem rsvd1E : Statement (.rsvd1E) := ⟨(by decide : 1 = opLen 0x1E#8), opcodeOf_cmd _ _⟩
theorem rsvd1F : Statement (.rsvd1F) := ⟨(by decide : 1 = opLen 0x1F#8), opcodeOf_cmd _ _⟩
theorem polyF3 (o : FlatTri) : Statement (.polyF3 o) := ⟨(by decide : 4 = opLen 0x20#8), opcodeOf_cmd _ _⟩
theorem polyF3R (o : FlatTri) : Statement (.polyF3R o) := ⟨(by decide : 4 = opLen 0x21#8), opcodeOf_cmd _ _⟩
theorem polyF3S (o : FlatTri) : Statement (.polyF3S o) := ⟨(by decide : 4 = opLen 0x22#8), opcodeOf_cmd _ _⟩
theorem polyF3SR (o : FlatTri) : Statement (.polyF3SR o) := ⟨(by decide : 4 = opLen 0x23#8), opcodeOf_cmd _ _⟩
theorem polyF3T (o : FlatTriTex) : Statement (.polyF3T o) := ⟨(by decide : 7 = opLen 0x24#8), opcodeOf_cmd _ _⟩
theorem polyF3TR (o : FlatTriTex) : Statement (.polyF3TR o) := ⟨(by decide : 7 = opLen 0x25#8), opcodeOf_cmd _ _⟩
theorem polyF3TS (o : FlatTriTex) : Statement (.polyF3TS o) := ⟨(by decide : 7 = opLen 0x26#8), opcodeOf_cmd _ _⟩
theorem polyF3TSR (o : FlatTriTex) : Statement (.polyF3TSR o) := ⟨(by decide : 7 = opLen 0x27#8), opcodeOf_cmd _ _⟩
theorem polyF4 (o : FlatQuad) : Statement (.polyF4 o) := ⟨(by decide : 5 = opLen 0x28#8), opcodeOf_cmd _ _⟩
theorem polyF4R (o : FlatQuad) : Statement (.polyF4R o) := ⟨(by decide : 5 = opLen 0x29#8), opcodeOf_cmd _ _⟩
theorem polyF4S (o : FlatQuad) : Statement (.polyF4S o) := ⟨(by decide : 5 = opLen 0x2A#8), opcodeOf_cmd _ _⟩
theorem polyF4SR (o : FlatQuad) : Statement (.polyF4SR o) := ⟨(by decide : 5 = opLen 0x2B#8), opcodeOf_cmd _ _⟩
theorem polyF4T (o : FlatQuadTex) : Statement (.polyF4T o) := ⟨(by decide : 9 = opLen 0x2C#8), opcodeOf_cmd _ _⟩
theorem polyF4TR (o : FlatQuadTex) : Statement (.polyF4TR o) := ⟨(by decide : 9 = opLen 0x2D#8), opcodeOf_cmd _ _⟩
theorem polyF4TS (o : FlatQuadTex) : Statement (.polyF4TS o) := ⟨(by decide : 9 = opLen 0x2E#8), opcodeOf_cmd _ _⟩
theorem polyF4TSR (o : FlatQuadTex) : Statement (.polyF4TSR o) := ⟨(by decide : 9 = opLen 0x2F#8), opcodeOf_cmd _ _⟩
theorem polyG3 (o : GourTri) : Statement (.polyG3 o) := ⟨(by decide : 6 = opLen 0x30#8), opcodeOf_cmd _ _⟩
theorem polyG3R (o : GourTri) : Statement (.polyG3R o) := ⟨(by decide : 6 = opLen 0x31#8), opcodeOf_cmd _ _⟩
theorem polyG3S (o : GourTri) : Statement (.polyG3S o) := ⟨(by decide : 6 = opLen 0x32#8), opcodeOf_cmd _ _⟩
theorem polyG3SR (o : GourTri) : Statement (.polyG3SR o) := ⟨(by decide : 6 = opLen 0x33#8), opcodeOf_cmd _ _⟩
theorem polyG3T (o : GourTriTex) : Statement (.polyG3T o) := ⟨(by decide : 9 = opLen 0x34#8), opcodeOf_cmd _ _⟩
theorem polyG3TR (o : GourTriTex) : Statement (.polyG3TR o) := ⟨(by decide : 9 = opLen 0x35#8), opcodeOf_cmd _ _⟩
theorem polyG3TS (o : GourTriTex) : Statement (.polyG3TS o) := ⟨(by decide : 9 = opLen 0x36#8), opcodeOf_cmd _ _⟩
theorem polyG3TSR (o : GourTriTex) : Statement (.polyG3TSR o) := ⟨(by decide : 9 = opLen 0x37#8), opcodeOf_cmd _ _⟩
theorem polyG4 (o : GourQuad) : Statement (.polyG4 o) := ⟨(by decide : 8 = opLen 0x38#8), opcodeOf_cmd _ _⟩
theorem polyG4R (o : GourQuad) : Statement (.polyG4R o) := ⟨(by decide : 8 = opLen 0x39#8), opcodeOf_cmd _ _⟩
theorem polyG4S (o : GourQuad) : Statement (.polyG4S o) := ⟨(by decide : 8 = opLen 0x3A#8), opcodeOf_cmd _ _⟩
theorem polyG4SR (o : GourQuad) : Statement (.polyG4SR o) := ⟨(by decide : 8 = opLen 0x3B#8), opcodeOf_cmd _ _⟩
theorem polyG4T (o : GourQuadTex) : Statement (.polyG4T o) := ⟨(by decide : 12 = opLen 0x3C#8), opcodeOf_cmd _ _⟩
theorem polyG4TR (o : GourQuadTex) : Statement (.polyG4TR o) := ⟨(by decide : 12 = opLen 0x3D#8), opcodeOf_cmd _ _⟩
theorem polyG4TS (o : GourQuadTex) : Statement (.polyG4TS o) := ⟨(by decide : 12 = opLen 0x3E#8), opcodeOf_cmd _ _⟩
theorem polyG4TSR (o : GourQuadTex) : Statement (.polyG4TSR o) := ⟨(by decide : 12 = opLen 0x3F#8), opcodeOf_cmd _ _⟩
theorem lineF (o : FlatLine) : Statement (.lineF o) := ⟨(by decide : 3 = opLen 0x40#8), opcodeOf_cmd _ _⟩
theorem lineFX41 (o : FlatLine) : Statement (.lineFX41 o) := ⟨(by decide : 3 = opLen 0x41#8), opcodeOf_cmd _ _⟩
theorem lineFS (o : FlatLine) : Statement (.lineFS o) := ⟨(by decide : 3 = opLen 0x42#8), opcodeOf_cmd _ _⟩
theorem lineFSX43 (o : FlatLine) : Statement (.lineFSX43 o) := ⟨(by decide : 3 = opLen 0x43#8), opcodeOf_cmd _ _⟩
theorem lineFX44 (o : FlatLine) : Statement (.lineFX44 o) := ⟨(by decide : 3 = opLen 0x44#8), opcodeOf_cmd _ _⟩
theorem lineFX45 (o : FlatLine) : Statement (.lineFX45 o) := ⟨(by decide : 3 = opLen 0x45#8), opcodeOf_cmd _ _⟩
theorem lineFSX46 (o : FlatLine) : Statement (.lineFSX46 o) := ⟨(by decide : 3 = opLen 0x46#8), opcodeOf_cmd _ _⟩
theorem lineFSX47 (o : FlatLine) : Statement (.lineFSX47 o) := ⟨(by decide : 3 = opLen 0x47#8), opcodeOf_cmd _ _⟩
theorem plineF (o : FlatLine) : Statement (.plineF o) := ⟨(by decide : 3 = opLen 0x48#8), opcodeOf_cmd _ _⟩
theorem plineFX49 (o : FlatLine) : Statement (.plineFX49 o) := ⟨(by decide : 3 = opLen 0x49#8), opcodeOf_cmd _ _⟩
theorem plineFS (o : FlatLine) : Statement (.plineFS o) := ⟨(by decide : 3 = opLen 0x4A#8), opcodeOf_cmd _ _⟩
theorem plineFSX4B (o : FlatLine) : Statement (.plineFSX4B o) := ⟨(by decide : 3 = opLen 0x4B#8), opcodeOf_cmd _ _⟩
theorem plineFX4C (o : FlatLine) : Statement (.plineFX4C o) := ⟨(by decide : 3 = opLen 0x4C#8), opcodeOf_cmd _ _⟩
theorem plineFX4D (o : FlatLine) : Statement (.plineFX4D o) := ⟨(by decide : 3 = opLen 0x4D#8), opcodeOf_cmd _ _⟩
theorem plineFSX4E (o : FlatLine) : Statement (.plineFSX4E o) := ⟨(by decide : 3 = opLen 0x4E#8), opcodeOf_cmd _ _⟩
theorem plineFSX4F (o : FlatLine) : Statement (.plineFSX4F o) := ⟨(by decide : 3 = opLen 0x4F#8), opcodeOf_cmd _ _⟩
theorem lineG (o : GourLine) : Statement (.lineG o) := ⟨(by decide : 4 = opLen 0x50#8), opcodeOf_cmd _ _⟩
theorem lineGX51 (o : GourLine) : Statement (.lineGX51 o) := ⟨(by decide : 4 = opLen 0x51#8), opcodeOf_cmd _ _⟩
theorem lineGS (o : GourLine) : Statement (.lineGS o) := ⟨(by decide : 4 = opLen 0x52#8), opcodeOf_cmd _ _⟩
theorem lineGSX53 (o : GourLine) : Statement (.lineGSX53 o) := ⟨(by decide : 4 = opLen 0x53#8), opcodeOf_cmd _ _⟩
theorem lineGX54 (o : GourLine) : Statement (.lineGX54 o) := ⟨(by decide : 4 = opLen 0x54#8), opcodeOf_cmd _ _⟩
theorem lineGX55 (o : GourLine) : Statement (.lineGX55 o) := ⟨(by decide : 4 = opLen 0x55#8), opcodeOf_cmd _ _⟩
theorem lineGSX56 (o : GourLine) : Statement (.lineGSX56 o) := ⟨(by decide : 4 = opLen 0x56#8), opcodeOf_cmd _ _⟩
theorem lineGSX57 (o : GourLine) : Statement (.lineGSX57 o) := ⟨(by decide : 4 = opLen 0x57#8), opcodeOf_cmd _ _⟩
theorem plineG (o : GourLine) : Statement (.plineG o) := ⟨(by decide : 4 = opLen 0x58#8), opcodeOf_cmd _ _⟩
theorem plineGX59 (o : GourLine) : Statement (.plineGX59 o) := ⟨(by decide : 4 = opLen 0x59#8), opcodeOf_cmd _ _⟩
theorem plineGS (o : GourLine) : Statement (.plineGS o) := ⟨(by decide : 4 = opLen 0x5A#8), opcodeOf_cmd _ _⟩
theorem plineGSX5B (o : GourLine) : Statement (.plineGSX5B o) := ⟨(by decide : 4 = opLen 0x5B#8), opcodeOf_cmd _ _⟩
theorem plineGX5C (o : GourLine) : Statement (.plineGX5C o) := ⟨(by decide : 4 = opLen 0x5C#8), opcodeOf_cmd _ _⟩
theorem plineGX5D (o : GourLine) : Statement (.plineGX5D o) := ⟨(by decide : 4 = opLen 0x5D#8), opcodeOf_cmd _ _⟩
theorem plineGSX5E (o : GourLine) : Statement (.plineGSX5E o) := ⟨(by decide : 4 = opLen 0x5E#8), opcodeOf_cmd _ _⟩
theorem plineGSX5F (o : GourLine) : Statement (.plineGSX5F o) := ⟨(by decide : 4 = opLen 0x5F#8), opcodeOf_cmd _ _⟩
theorem rectV (o : RectVar) : Statement (.rectV o) := ⟨(by decide : 3 = opLen 0x60#8), opcodeOf_cmd _ _⟩
theorem rectVR (o : RectVar) : Statement (.rectVR o) := ⟨(by decide : 3 = opLen 0x61#8), opcodeOf_cmd _ _⟩
theorem rectVS (o : RectVar) : Statement (.rectVS o) := ⟨(by decide : 3 = opLen 0x62#8), opcodeOf_cmd _ _⟩
theorem rectVSR (o : RectVar) : Statement (.rectVSR o) := ⟨(by decide : 3 = opLen 0x63#8), opcodeOf_cmd _ _⟩
theorem rectVT (o : RectVarTex) : Statement (.rectVT o) := ⟨(by decide : 4 = opLen 0x64#8), opcodeOf_cmd _ _⟩
theorem rectVTR (o : RectVarTex) : Statement (.rectVTR o) := ⟨(by decide : 4 = opLen 0x65#8), opcodeOf_cmd _ _⟩
theorem rectVTS (o : RectVarTex) : Statement (.rectVTS o) := ⟨(by decide : 4 = opLen 0x66#8), opcodeOf_cmd _ _⟩
theorem rectVTSR (o : RectVarTex) : Statement (.rectVTSR o) := ⟨(by decide : 4 = opLen 0x67#8), opcodeOf_cmd _ _⟩
theorem rect1 (o : RectFix) : Statement (.rect1 o) := ⟨(by decide : 2 = opLen 0x68#8), opcodeOf_cmd _ _⟩
theorem rect1R (o : RectFix) : Statement (.rect1R o) := ⟨(by decide : 2 = opLen 0x69#8), opcodeOf_cmd _ _⟩
theorem rect1S (o : RectFix) : Statement (.rect1S o) := ⟨(by decide : 2 = opLen 0x6A#8), opcodeOf_cmd _ _⟩
theorem rect1SR (o : RectFix) : Statement (.rect1SR o) := ⟨(by decide : 2 = opLen 0x6B#8), opcodeOf_cmd _ _⟩
theorem rect1T (o : RectFixTex) : Statement (.rect1T o) := ⟨(by decide : 3 = opLen 0x6C#8), opcodeOf_cmd _ _⟩
theorem rect1TR (o : RectFixTex) : Statement (.rect1TR o) := ⟨(by decide : 3 = opLen 0x6D#8), opcodeOf_cmd _ _⟩
theorem rect1TS (o : RectFixTex) : Statement (.rect1TS o) := ⟨(by decide : 3 = opLen 0x6E#8), opcodeOf_cmd _ _⟩
theorem rect1TSR (o : RectFixTex) : Statement (.rect1TSR o) := ⟨(by decide : 3 = opLen 0x6F#8), opcodeOf_cmd _ _⟩
theorem rect8 (o : RectFix) : Statement (.rect8 o) := ⟨(by decide : 2 = opLen 0x70#8), opcodeOf_cmd _ _⟩
theorem rect8R (o : RectFix) : Statement (.rect8R o) := ⟨(by decide : 2 = opLen 0x71#8), opcodeOf_cmd _ _⟩
theorem rect8S (o : RectFix) : Statement (.rect8S o) := ⟨(by decide : 2 = opLen 0x72#8), opcodeOf_cmd _ _⟩
theorem rect8SR (o : RectFix) : Statement (.rect8SR o) := ⟨(by decide : 2 = opLen 0x73#8), opcodeOf_cmd _ _⟩
theorem rect8T (o : RectFixTex) : Statement (.rect8T o) := ⟨(by decide : 3 = opLen 0x74#8), opcodeOf_cmd _ _⟩
theorem rect8TR (o : RectFixTex) : Statement (.rect8TR o) := ⟨(by decide : 3 = opLen 0x75#8), opcodeOf_cmd _ _⟩
theorem rect8TS (o : RectFixTex) : Statement (.rect8TS o) := ⟨(by decide : 3 = opLen 0x76#8), opcodeOf_cmd _ _⟩
theorem rect8TSR (o : RectFixTex) : Statement (.rect8TSR o) := ⟨(by decide : 3 = opLen 0x77#8), opcodeOf_cmd _ _⟩
theorem rect16 (o : RectFix) : Statement (.rect16 o) := ⟨(by decide : 2 = opLen 0x78#8), opcodeOf_cmd _ _⟩
theorem rect16R (o : RectFix) : Statement (.rect16R o) := ⟨(by decide : 2 = opLen 0x79#8), opcodeOf_cmd _ _⟩
theorem rect16S (o : RectFix) : Statement (.rect16S o) := ⟨(by decide : 2 = opLen 0x7A#8), opcodeOf_cmd _ _⟩
theorem rect16SR (o : RectFix) : Statement (.rect16SR o) := ⟨(by decide : 2 = opLen 0x7B#8), opcodeOf_cmd _ _⟩
theorem rect16T (o : RectFixTex) : Statement (.rect16T o) := ⟨(by decide : 3 = opLen 0x7C#8), opcodeOf_cmd _ _⟩
theorem rect16TR (o : RectFixTex) : Statement (.rect16TR o) := ⟨(by decide : 3 = opLen 0x7D#8), opcodeOf_cmd _ _⟩
theorem rect16TS (o : RectFixTex) : Statement (.rect16TS o) := ⟨(by decide : 3 = opLen 0x7E#8), opcodeOf_cmd _ _⟩
theorem rect16TSR (o : RectFixTex) : Statement (.rect16TSR o) := ⟨(by decide : 3 = opLen 0x7F#8), opcodeOf_cmd _ _⟩
theorem vcopy (o : Copy) : Statement (.vcopy o) := ⟨(by decide : 4 = opLen 0x80#8), opcodeOf_cmd _ _⟩
theorem vcopyX81 (o : Copy) : Statement (.vcopyX81 o) := ⟨(by decide : 4 = opLen 0x81#8), opcodeOf_cmd _ _⟩
theorem vcopyX82 (o : Copy) : Statement (.vcopyX82 o) := ⟨(by decide : 4 = opLen 0x82#8), opcodeOf_cmd _ _⟩
theorem vcopyX83 (o : Copy) : Statement (.vcopyX83 o) := ⟨(by decide : 4 = opLen 0x83#8), opcodeOf_cmd _ _⟩
theorem vcopyX84 (o : Copy) : Statement (.vcopyX84 o) := ⟨(by decide : 4 = opLen 0x84#8), opcodeOf_cmd _ _⟩
theorem vcopyX85 (o : Copy) : Statement (.vcopyX85 o) := ⟨(by decide : 4 = opLen 0x85#8), opcodeOf_cmd _ _⟩
theorem vcopyX86 (o : Copy) : Statement (.vcopyX86 o) := ⟨(by decide : 4 = opLen 0x86#8), opcodeOf_cmd _ _⟩
theorem vcopyX87 (o : Copy) : Statement (.vcopyX87 o) := ⟨(by decide : 4 = opLen 0x87#8), opcodeOf_cmd _ _⟩
theorem vcopyX88 (o : Copy) : Statement (.vcopyX88 o) := ⟨(by decide : 4 = opLen 0x88#8), opcodeOf_cmd _ _⟩
theorem vcopyX89 (o : Copy) : Statement (.vcopyX89 o) := ⟨(by decide : 4 = opLen 0x89#8), opcodeOf_cmd _ _⟩
theorem vcopyX8A (o : Copy) : Statement (.vcopyX8A o) := ⟨(by decide : 4 = opLen 0x8A#8), opcodeOf_cmd _ _⟩
theorem vcopyX8B (o : Copy) : Statement (.vcopyX8B o) := ⟨(by decide : 4 = opLen 0x8B#8), opcodeOf_cmd _ _⟩
theorem vcopyX8C (o : Copy) : Statement (.vcopyX8C o) := ⟨(by decide : 4 = opLen 0x8C#8), opcodeOf_cmd _ _⟩
theorem vcopyX8D (o : Copy) : Statement (.vcopyX8D o) := ⟨(by decide : 4 = opLen 0x8D#8), opcodeOf_cmd _ _⟩
theorem vcopyX8E (o : Copy) : Statement (.vcopyX8E o) := ⟨(by decide : 4 = opLen 0x8E#8), opcodeOf_cmd _ _⟩
theorem vcopyX8F (o : Copy) : Statement (.vcopyX8F o) := ⟨(by decide : 4 = opLen 0x8F#8), opcodeOf_cmd _ _⟩
theorem vcopyX90 (o : Copy) : Statement (.vcopyX90 o) := ⟨(by decide : 4 = opLen 0x90#8), opcodeOf_cmd _ _⟩
theorem vcopyX91 (o : Copy) : Statement (.vcopyX91 o) := ⟨(by decide : 4 = opLen 0x91#8), opcodeOf_cmd _ _⟩
theorem vcopyX92 (o : Copy) : Statement (.vcopyX92 o) := ⟨(by decide : 4 = opLen 0x92#8), opcodeOf_cmd _ _⟩
theorem vcopyX93 (o : Copy) : Statement (.vcopyX93 o) := ⟨(by decide : 4 = opLen 0x93#8), opcodeOf_cmd _ _⟩
theorem vcopyX94 (o : Copy) : Statement (.vcopyX94 o) := ⟨(by decide : 4 = opLen 0x94#8), opcodeOf_cmd _ _⟩
theorem vcopyX95 (o : Copy) : Statement (.vcopyX95 o) := ⟨(by decide : 4 = opLen 0x95#8), opcodeOf_cmd _ _⟩
theorem vcopyX96 (o : Copy) : Statement (.vcopyX96 o) := ⟨(by decide : 4 = opLen 0x96#8), opcodeOf_cmd _ _⟩
theorem vcopyX97 (o : Copy) : Statement (.vcopyX97 o) := ⟨(by decide : 4 = opLen 0x97#8), opcodeOf_cmd _ _⟩
theorem vcopyX98 (o : Copy) : Statement (.vcopyX98 o) := ⟨(by decide : 4 = opLen 0x98#8), opcodeOf_cmd _ _⟩
theorem vcopyX99 (o : Copy) : Statement (.vcopyX99 o) := ⟨(by decide : 4 = opLen 0x99#8), opcodeOf_cmd _ _⟩
theorem vcopyX9A (o : Copy) : Statement (.vcopyX9A o) := ⟨(by decide : 4 = opLen 0x9A#8), opcodeOf_cmd _ _⟩
theorem vcopyX9B (o : Copy) : Statement (.vcopyX9B o) := ⟨(by decide : 4 = opLen 0x9B#8), opcodeOf_cmd _ _⟩
theorem vcopyX9C (o : Copy) : Statement (.vcopyX9C o) := ⟨(by decide : 4 = opLen 0x9C#8), opcodeOf_cmd _ _⟩
theorem vcopyX9D (o : Copy) : Statement (.vcopyX9D o) := ⟨(by decide : 4 = opLen 0x9D#8), opcodeOf_cmd _ _⟩
theorem vcopyX9E (o : Copy) : Statement (.vcopyX9E o) := ⟨(by decide : 4 = opLen 0x9E#8), opcodeOf_cmd _ _⟩
theorem vcopyX9F (o : Copy) : Statement (.vcopyX9F o) := ⟨(by decide : 4 = opLen 0x9F#8), opcodeOf_cmd _ _⟩
theorem imgin (o : Xfer) : Statement (.imgin o) := ⟨(by decide : 3 = opLen 0xA0#8), opcodeOf_cmd _ _⟩
theorem imginXA1 (o : Xfer) : Statement (.imginXA1 o) := ⟨(by decide : 3 = opLen 0xA1#8), opcodeOf_cmd _ _⟩
theorem imginXA2 (o : Xfer) : Statement (.imginXA2 o) := ⟨(by decide : 3 = opLen 0xA2#8), opcodeOf_cmd _ _⟩
theorem imginXA3 (o : Xfer) : Statement (.imginXA3 o) := ⟨(by decide : 3 = opLen 0xA3#8), opcodeOf_cmd _ _⟩
theorem imginXA4 (o : Xfer) : Statement (.imginXA4 o) := ⟨(by decide : 3 = opLen 0xA4#8), opcodeOf_cmd _ _⟩
theorem imginXA5 (o : Xfer) : Statement (.imginXA5 o) := ⟨(by decide : 3 = opLen 0xA5#8), opcodeOf_cmd _ _⟩
theorem imginXA6 (o : Xfer) : Statement (.imginXA6 o) := ⟨(by decide : 3 = opLen 0xA6#8), opcodeOf_cmd _ _⟩
theorem imginXA7 (o : Xfer) : Statement (.imginXA7 o) := ⟨(by decide : 3 = opLen 0xA7#8), opcodeOf_cmd _ _⟩
theorem imginXA8 (o : Xfer) : Statement (.imginXA8 o) := ⟨(by decide : 3 = opLen 0xA8#8), opcodeOf_cmd _ _⟩
theorem imginXA9 (o : Xfer) : Statement (.imginXA9 o) := ⟨(by decide : 3 = opLen 0xA9#8), opcodeOf_cmd _ _⟩
theorem imginXAA (o : Xfer) : Statement (.imginXAA o) := ⟨(by decide : 3 = opLen 0xAA#8), opcodeOf_cmd _ _⟩
theorem imginXAB (o : Xfer) : Statement (.imginXAB o) := ⟨(by decide : 3 = opLen 0xAB#8), opcodeOf_cmd _ _⟩
theorem imginXAC (o : Xfer) : Statement (.imginXAC o) := ⟨(by decide : 3 = opLen 0xAC#8), opcodeOf_cmd _ _⟩
theorem imginXAD (o : Xfer) : Statement (.imginXAD o) := ⟨(by decide : 3 = opLen 0xAD#8), opcodeOf_cmd _ _⟩
theorem imginXAE (o : Xfer) : Statement (.imginXAE o) := ⟨(by decide : 3 = opLen 0xAE#8), opcodeOf_cmd _ _⟩
theorem imginXAF (o : Xfer) : Statement (.imginXAF o) := ⟨(by decide : 3 = opLen 0xAF#8), opcodeOf_cmd _ _⟩
theorem imginXB0 (o : Xfer) : Statement (.imginXB0 o) := ⟨(by decide : 3 = opLen 0xB0#8), opcodeOf_cmd _ _⟩
theorem imginXB1 (o : Xfer) : Statement (.imginXB1 o) := ⟨(by decide : 3 = opLen 0xB1#8), opcodeOf_cmd _ _⟩
theorem imginXB2 (o : Xfer) : Statement (.imginXB2 o) := ⟨(by decide : 3 = opLen 0xB2#8), opcodeOf_cmd _ _⟩
theorem imginXB3 (o : Xfer) : Statement (.imginXB3 o) := ⟨(by decide : 3 = opLen 0xB3#8), opcodeOf_cmd _ _⟩
theorem imginXB4 (o : Xfer) : Statement (.imginXB4 o) := ⟨(by decide : 3 = opLen 0xB4#8), opcodeOf_cmd _ _⟩
theorem imginXB5 (o : Xfer) : Statement (.imginXB5 o) := ⟨(by decide : 3 = opLen 0xB5#8), opcodeOf_cmd _ _⟩
theorem imginXB6 (o : Xfer) : Statement (.imginXB6 o) := ⟨(by decide : 3 = opLen 0xB6#8), opcodeOf_cmd _ _⟩
theorem imginXB7 (o : Xfer) : Statement (.imginXB7 o) := ⟨(by decide : 3 = opLen 0xB7#8), opcodeOf_cmd _ _⟩
theorem imginXB8 (o : Xfer) : Statement (.imginXB8 o) := ⟨(by decide : 3 = opLen 0xB8#8), opcodeOf_cmd _ _⟩
theorem imginXB9 (o : Xfer) : Statement (.imginXB9 o) := ⟨(by decide : 3 = opLen 0xB9#8), opcodeOf_cmd _ _⟩
theorem imginXBA (o : Xfer) : Statement (.imginXBA o) := ⟨(by decide : 3 = opLen 0xBA#8), opcodeOf_cmd _ _⟩
theorem imginXBB (o : Xfer) : Statement (.imginXBB o) := ⟨(by decide : 3 = opLen 0xBB#8), opcodeOf_cmd _ _⟩
theorem imginXBC (o : Xfer) : Statement (.imginXBC o) := ⟨(by decide : 3 = opLen 0xBC#8), opcodeOf_cmd _ _⟩
theorem imginXBD (o : Xfer) : Statement (.imginXBD o) := ⟨(by decide : 3 = opLen 0xBD#8), opcodeOf_cmd _ _⟩
theorem imginXBE (o : Xfer) : Statement (.imginXBE o) := ⟨(by decide : 3 = opLen 0xBE#8), opcodeOf_cmd _ _⟩
theorem imginXBF (o : Xfer) : Statement (.imginXBF o) := ⟨(by decide : 3 = opLen 0xBF#8), opcodeOf_cmd _ _⟩
theorem imgout (o : Xfer) : Statement (.imgout o) := ⟨(by decide : 3 = opLen 0xC0#8), opcodeOf_cmd _ _⟩
theorem imgoutXC1 (o : Xfer) : Statement (.imgoutXC1 o) := ⟨(by decide : 3 = opLen 0xC1#8), opcodeOf_cmd _ _⟩
theorem imgoutXC2 (o : Xfer) : Statement (.imgoutXC2 o) := ⟨(by decide : 3 = opLen 0xC2#8), opcodeOf_cmd _ _⟩
theorem imgoutXC3 (o : Xfer) : Statement (.imgoutXC3 o) := ⟨(by decide : 3 = opLen 0xC3#8), opcodeOf_cmd _ _⟩
theorem imgoutXC4 (o : Xfer) : Statement (.imgoutXC4 o) := ⟨(by decide : 3 = opLen 0xC4#8), opcodeOf_cmd _ _⟩
theorem imgoutXC5 (o : Xfer) : Statement (.imgoutXC5 o) := ⟨(by decide : 3 = opLen 0xC5#8), opcodeOf_cmd _ _⟩
theorem imgoutXC6 (o : Xfer) : Statement (.imgoutXC6 o) := ⟨(by decide : 3 = opLen 0xC6#8), opcodeOf_cmd _ _⟩
theorem imgoutXC7 (o : Xfer) : Statement (.imgoutXC7 o) := ⟨(by decide : 3 = opLen 0xC7#8), opcodeOf_cmd _ _⟩
theorem imgoutXC8 (o : Xfer) : Statement (.imgoutXC8 o) := ⟨(by decide : 3 = opLen 0xC8#8), opcodeOf_cmd _ _⟩
theorem imgoutXC9 (o : Xfer) : Statement (.imgoutXC9 o) := ⟨(by decide : 3 = opLen 0xC9#8), opcodeOf_cmd _ _⟩
theorem imgoutXCA (o : Xfer) : Statement (.imgoutXCA o) := ⟨(by decide : 3 = opLen 0xCA#8), opcodeOf_cmd _ _⟩
theorem imgoutXCB (o : Xfer) : Statement (.imgoutXCB o) := ⟨(by decide : 3 = opLen 0xCB#8), opcodeOf_cmd _ _⟩
theorem imgoutXCC (o : Xfer) : Statement (.imgoutXCC o) := ⟨(by decide : 3 = opLen 0xCC#8), opcodeOf_cmd _ _⟩
theorem imgoutXCD (o : Xfer) : Statement (.imgoutXCD o) := ⟨(by decide : 3 = opLen 0xCD#8), opcodeOf_cmd _ _⟩
theorem imgoutXCE (o : Xfer) : Statement (.imgoutXCE o) := ⟨(by decide : 3 = opLen 0xCE#8), opcodeOf_cmd _ _⟩
theorem imgoutXCF (o : Xfer) : Statement (.imgoutXCF o) := ⟨(by decide : 3 = opLen 0xCF#8), opcodeOf_cmd _ _⟩
theorem imgoutXD0 (o : Xfer) : Statement (.imgoutXD0 o) := ⟨(by decide : 3 = opLen 0xD0#8), opcodeOf_cmd _ _⟩
theorem imgoutXD1 (o : Xfer) : Statement (.imgoutXD1 o) := ⟨(by decide : 3 = opLen 0xD1#8), opcodeOf_cmd _ _⟩
theorem imgoutXD2 (o : Xfer) : Statement (.imgoutXD2 o) := ⟨(by decide : 3 = opLen 0xD2#8), opcodeOf_cmd _ _⟩
theorem imgoutXD3 (o : Xfer) : Statement (.imgoutXD3 o) := ⟨(by decide : 3 = opLen 0xD3#8), opcodeOf_cmd _ _⟩
theorem imgoutXD4 (o : Xfer) : Statement (.imgoutXD4 o) := ⟨(by decide : 3 = opLen 0xD4#8), opcodeOf_cmd _ _⟩
theorem imgoutXD5 (o : Xfer) : Statement (.imgoutXD5 o) := ⟨(by decide : 3 = opLen 0xD5#8), opcodeOf_cmd _ _⟩
theorem imgoutXD6 (o : Xfer) : Statement (.imgoutXD6 o) := ⟨(by decide : 3 = opLen 0xD6#8), opcodeOf_cmd _ _⟩
theorem imgoutXD7 (o : Xfer) : Statement (.imgoutXD7 o) := ⟨(by decide : 3 = opLen 0xD7#8), opcodeOf_cmd _ _⟩
theorem imgoutXD8 (o : Xfer) : Statement (.imgoutXD8 o) := ⟨(by decide : 3 = opLen 0xD8#8), opcodeOf_cmd _ _⟩
theorem imgoutXD9 (o : Xfer) : Statement (.imgoutXD9 o) := ⟨(by decide : 3 = opLen 0xD9#8), opcodeOf_cmd _ _⟩
theorem imgoutXDA (o : Xfer) : Statement (.imgoutXDA o) := ⟨(by decide : 3 = opLen 0xDA#8), opcodeOf_cmd _ _⟩
theorem imgoutXDB (o : Xfer) : Statement (.imgoutXDB o) := ⟨(by decide : 3 = opLen 0xDB#8), opcodeOf_cmd _ _⟩
theorem imgoutXDC (o : Xfer) : Statement (.imgoutXDC o) := ⟨(by decide : 3 = opLen 0xDC#8), opcodeOf_cmd _ _⟩
theorem imgoutXDD (o : Xfer) : Statement (.imgoutXDD o) := ⟨(by decide : 3 = opLen 0xDD#8), opcodeOf_cmd _ _⟩
theorem imgoutXDE (o : Xfer) : Statement (.imgoutXDE o) := ⟨(by decide : 3 = opLen 0xDE#8), opcodeOf_cmd _ _⟩
theorem imgoutXDF (o : Xfer) : Statement (.imgoutXDF o) := ⟨(by decide : 3 = opLen 0xDF#8), opcodeOf_cmd _ _⟩
theorem rsvdE0 : Statement (.rsvdE0) := ⟨(by decide : 1 = opLen 0xE0#8), opcodeOf_cmd _ _⟩
theorem setmode (o : SetMode) : Statement (.setmode o) := ⟨(by decide : 1 = opLen 0xE1#8), opcodeOf_cmd _ _⟩
theorem settw (o : SetTw) : Statement (.settw o) := ⟨(by decide : 1 = opLen 0xE2#8), opcodeOf_cmd _ _⟩
theorem setclip1 (o : SetClip) : Statement (.setclip1 o) := ⟨(by decide : 1 = opLen 0xE3#8), opcodeOf_cmd _ _⟩
theorem setclip2 (o : SetClip) : Statement (.setclip2 o) := ⟨(by decide : 1 = opLen 0xE4#8), opcodeOf_cmd _ _⟩
theorem setofs (o : SetOfs) : Statement (.setofs o) := ⟨(by decide : 1 = opLen 0xE5#8), opcodeOf_cmd _ _⟩
theorem setmask (o : SetMask) : Statement (.setmask o) := ⟨(by decide : 1 = opLen 0xE6#8), opcodeOf_cmd _ _⟩
theorem rsvdE7 : Statement (.rsvdE7) := ⟨(by decide : 1 = opLen 0xE7#8), opcodeOf_cmd _ _⟩
theorem rsvdE8 : Statement (.rsvdE8) := ⟨(by decide : 1 = opLen 0xE8#8), opcodeOf_cmd _ _⟩
theorem rsvdE9 : Statement (.rsvdE9) := ⟨(by decide : 1 = opLen 0xE9#8), opcodeOf_cmd _ _⟩
theorem rsvdEA : Statement (.rsvdEA) := ⟨(by decide : 1 = opLen 0xEA#8), opcodeOf_cmd _ _⟩
theorem rsvdEB : Statement (.rsvdEB) := ⟨(by decide : 1 = opLen 0xEB#8), opcodeOf_cmd _ _⟩
theorem rsvdEC : Statement (.rsvdEC) := ⟨(by decide : 1 = opLen 0xEC#8), opcodeOf_cmd _ _⟩
theorem rsvdED : Statement (.rsvdED) := ⟨(by decide : 1 = opLen 0xED#8), opcodeOf_cmd _ _⟩
theorem rsvdEE : Statement (.rsvdEE) := ⟨(by decide : 1 = opLen 0xEE#8), opcodeOf_cmd _ _⟩
theorem rsvdEF : Statement (.rsvdEF) := ⟨(by decide : 1 = opLen 0xEF#8), opcodeOf_cmd _ _⟩
theorem rsvdF0 : Statement (.rsvdF0) := ⟨(by decide : 1 = opLen 0xF0#8), opcodeOf_cmd _ _⟩
theorem rsvdF1 : Statement (.rsvdF1) := ⟨(by decide : 1 = opLen 0xF1#8), opcodeOf_cmd _ _⟩
theorem rsvdF2 : Statement (.rsvdF2) := ⟨(by decide : 1 = opLen 0xF2#8), opcodeOf_cmd _ _⟩
theorem rsvdF3 : Statement (.rsvdF3) := ⟨(by decide : 1 = opLen 0xF3#8), opcodeOf_cmd _ _⟩
theorem rsvdF4 : Statement (.rsvdF4) := ⟨(by decide : 1 = opLen 0xF4#8), opcodeOf_cmd _ _⟩
theorem rsvdF5 : Statement (.rsvdF5) := ⟨(by decide : 1 = opLen 0xF5#8), opcodeOf_cmd _ _⟩
theorem rsvdF6 : Statement (.rsvdF6) := ⟨(by decide : 1 = opLen 0xF6#8), opcodeOf_cmd _ _⟩
theorem rsvdF7 : Statement (.rsvdF7) := ⟨(by decide : 1 = opLen 0xF7#8), opcodeOf_cmd _ _⟩
theorem rsvdF8 : Statement (.rsvdF8) := ⟨(by decide : 1 = opLen 0xF8#8), opcodeOf_cmd _ _⟩
theorem rsvdF9 : Statement (.rsvdF9) := ⟨(by decide : 1 = opLen 0xF9#8), opcodeOf_cmd _ _⟩
theorem rsvdFA : Statement (.rsvdFA) := ⟨(by decide : 1 = opLen 0xFA#8), opcodeOf_cmd _ _⟩
theorem rsvdFB : Statement (.rsvdFB) := ⟨(by decide : 1 = opLen 0xFB#8), opcodeOf_cmd _ _⟩
theorem rsvdFC : Statement (.rsvdFC) := ⟨(by decide : 1 = opLen 0xFC#8), opcodeOf_cmd _ _⟩
theorem rsvdFD : Statement (.rsvdFD) := ⟨(by decide : 1 = opLen 0xFD#8), opcodeOf_cmd _ _⟩
theorem rsvdFE : Statement (.rsvdFE) := ⟨(by decide : 1 = opLen 0xFE#8), opcodeOf_cmd _ _⟩
theorem rsvdFF : Statement (.rsvdFF) := ⟨(by decide : 1 = opLen 0xFF#8), opcodeOf_cmd _ _⟩
theorem g1Reset : Statement (.g1Reset) := ⟨rfl, gp1OpcodeOf_cmd _ _⟩
theorem g1Abort : Statement (.g1Abort) := ⟨rfl, gp1OpcodeOf_cmd _ _⟩
theorem g1Ack : Statement (.g1Ack) := ⟨rfl, gp1OpcodeOf_cmd _ _⟩
theorem g1Dispen (o : DispEn) : Statement (.g1Dispen o) := ⟨rfl, gp1OpcodeOf_cmd _ _⟩
theorem g1Dmadir (o : DmaDir) : Statement (.g1Dmadir o) := ⟨rfl, gp1OpcodeOf_cmd _ _⟩
theorem g1Origin (o : Origin) : Statement (.g1Origin o) := ⟨rfl, gp1OpcodeOf_cmd _ _⟩
theorem g1Hrange (o : HRange) : Statement (.g1Hrange o) := ⟨rfl, gp1OpcodeOf_cmd _ _⟩
theorem g1Vrange (o : VRange) : Statement (.g1Vrange o) := ⟨rfl, gp1OpcodeOf_cmd _ _⟩
theorem g1Mode (o : Mode) : Statement (.g1Mode o) := ⟨rfl, gp1OpcodeOf_cmd _ _⟩
theorem g1Rsvd09 : Statement (.g1Rsvd09) := ⟨rfl, gp1OpcodeOf_cmd _ _⟩
theorem g1Rsvd0A : Statement (.g1Rsvd0A) := ⟨rfl, gp1OpcodeOf_cmd _ _⟩
theorem g1Rsvd0B : Statement (.g1Rsvd0B) := ⟨rfl, gp1OpcodeOf_cmd _ _⟩
theorem g1Rsvd0C : Statement (.g1Rsvd0C) := ⟨rfl, gp1OpcodeOf_cmd _ _⟩
theorem g1Rsvd0D : Statement (.g1Rsvd0D) := ⟨rfl, gp1OpcodeOf_cmd _ _⟩
theorem g1Rsvd0E : Statement (.g1Rsvd0E) := ⟨rfl, gp1OpcodeOf_cmd _ _⟩
theorem g1Rsvd0F : Statement (.g1Rsvd0F) := ⟨rfl, gp1OpcodeOf_cmd _ _⟩
theorem g1Info (o : Info) : Statement (.g1Info o) := ⟨rfl, gp1OpcodeOf_cmd _ _⟩
theorem g1InfoX11 (o : Info) : Statement (.g1InfoX11 o) := ⟨rfl, gp1OpcodeOf_cmd _ _⟩
theorem g1InfoX12 (o : Info) : Statement (.g1InfoX12 o) := ⟨rfl, gp1OpcodeOf_cmd _ _⟩
theorem g1InfoX13 (o : Info) : Statement (.g1InfoX13 o) := ⟨rfl, gp1OpcodeOf_cmd _ _⟩
theorem g1InfoX14 (o : Info) : Statement (.g1InfoX14 o) := ⟨rfl, gp1OpcodeOf_cmd _ _⟩
theorem g1InfoX15 (o : Info) : Statement (.g1InfoX15 o) := ⟨rfl, gp1OpcodeOf_cmd _ _⟩
theorem g1InfoX16 (o : Info) : Statement (.g1InfoX16 o) := ⟨rfl, gp1OpcodeOf_cmd _ _⟩
theorem g1InfoX17 (o : Info) : Statement (.g1InfoX17 o) := ⟨rfl, gp1OpcodeOf_cmd _ _⟩
theorem g1InfoX18 (o : Info) : Statement (.g1InfoX18 o) := ⟨rfl, gp1OpcodeOf_cmd _ _⟩
theorem g1InfoX19 (o : Info) : Statement (.g1InfoX19 o) := ⟨rfl, gp1OpcodeOf_cmd _ _⟩
theorem g1InfoX1A (o : Info) : Statement (.g1InfoX1A o) := ⟨rfl, gp1OpcodeOf_cmd _ _⟩
theorem g1InfoX1B (o : Info) : Statement (.g1InfoX1B o) := ⟨rfl, gp1OpcodeOf_cmd _ _⟩
theorem g1InfoX1C (o : Info) : Statement (.g1InfoX1C o) := ⟨rfl, gp1OpcodeOf_cmd _ _⟩
theorem g1InfoX1D (o : Info) : Statement (.g1InfoX1D o) := ⟨rfl, gp1OpcodeOf_cmd _ _⟩
theorem g1InfoX1E (o : Info) : Statement (.g1InfoX1E o) := ⟨rfl, gp1OpcodeOf_cmd _ _⟩
theorem g1InfoX1F (o : Info) : Statement (.g1InfoX1F o) := ⟨rfl, gp1OpcodeOf_cmd _ _⟩
theorem g1Rsvd20 : Statement (.g1Rsvd20) := ⟨rfl, gp1OpcodeOf_cmd _ _⟩
theorem g1Rsvd21 : Statement (.g1Rsvd21) := ⟨rfl, gp1OpcodeOf_cmd _ _⟩
theorem g1Rsvd22 : Statement (.g1Rsvd22) := ⟨rfl, gp1OpcodeOf_cmd _ _⟩
theorem g1Rsvd23 : Statement (.g1Rsvd23) := ⟨rfl, gp1OpcodeOf_cmd _ _⟩
theorem g1Rsvd24 : Statement (.g1Rsvd24) := ⟨rfl, gp1OpcodeOf_cmd _ _⟩
theorem g1Rsvd25 : Statement (.g1Rsvd25) := ⟨rfl, gp1OpcodeOf_cmd _ _⟩
theorem g1Rsvd26 : Statement (.g1Rsvd26) := ⟨rfl, gp1OpcodeOf_cmd _ _⟩
theorem g1Rsvd27 : Statement (.g1Rsvd27) := ⟨rfl, gp1OpcodeOf_cmd _ _⟩
theorem g1Rsvd28 : Statement (.g1Rsvd28) := ⟨rfl, gp1OpcodeOf_cmd _ _⟩
theorem g1Rsvd29 : Statement (.g1Rsvd29) := ⟨rfl, gp1OpcodeOf_cmd _ _⟩
theorem g1Rsvd2A : Statement (.g1Rsvd2A) := ⟨rfl, gp1OpcodeOf_cmd _ _⟩
theorem g1Rsvd2B : Statement (.g1Rsvd2B) := ⟨rfl, gp1OpcodeOf_cmd _ _⟩
theorem g1Rsvd2C : Statement (.g1Rsvd2C) := ⟨rfl, gp1OpcodeOf_cmd _ _⟩
theorem g1Rsvd2D : Statement (.g1Rsvd2D) := ⟨rfl, gp1OpcodeOf_cmd _ _⟩
theorem g1Rsvd2E : Statement (.g1Rsvd2E) := ⟨rfl, gp1OpcodeOf_cmd _ _⟩
theorem g1Rsvd2F : Statement (.g1Rsvd2F) := ⟨rfl, gp1OpcodeOf_cmd _ _⟩
theorem g1Rsvd30 : Statement (.g1Rsvd30) := ⟨rfl, gp1OpcodeOf_cmd _ _⟩
theorem g1Rsvd31 : Statement (.g1Rsvd31) := ⟨rfl, gp1OpcodeOf_cmd _ _⟩
theorem g1Rsvd32 : Statement (.g1Rsvd32) := ⟨rfl, gp1OpcodeOf_cmd _ _⟩
theorem g1Rsvd33 : Statement (.g1Rsvd33) := ⟨rfl, gp1OpcodeOf_cmd _ _⟩
theorem g1Rsvd34 : Statement (.g1Rsvd34) := ⟨rfl, gp1OpcodeOf_cmd _ _⟩
theorem g1Rsvd35 : Statement (.g1Rsvd35) := ⟨rfl, gp1OpcodeOf_cmd _ _⟩
theorem g1Rsvd36 : Statement (.g1Rsvd36) := ⟨rfl, gp1OpcodeOf_cmd _ _⟩
theorem g1Rsvd37 : Statement (.g1Rsvd37) := ⟨rfl, gp1OpcodeOf_cmd _ _⟩
theorem g1Rsvd38 : Statement (.g1Rsvd38) := ⟨rfl, gp1OpcodeOf_cmd _ _⟩
theorem g1Rsvd39 : Statement (.g1Rsvd39) := ⟨rfl, gp1OpcodeOf_cmd _ _⟩
theorem g1Rsvd3A : Statement (.g1Rsvd3A) := ⟨rfl, gp1OpcodeOf_cmd _ _⟩
theorem g1Rsvd3B : Statement (.g1Rsvd3B) := ⟨rfl, gp1OpcodeOf_cmd _ _⟩
theorem g1Rsvd3C : Statement (.g1Rsvd3C) := ⟨rfl, gp1OpcodeOf_cmd _ _⟩
theorem g1Rsvd3D : Statement (.g1Rsvd3D) := ⟨rfl, gp1OpcodeOf_cmd _ _⟩
theorem g1Rsvd3E : Statement (.g1Rsvd3E) := ⟨rfl, gp1OpcodeOf_cmd _ _⟩
theorem g1Rsvd3F : Statement (.g1Rsvd3F) := ⟨rfl, gp1OpcodeOf_cmd _ _⟩

end Laws.EncodedShape

end Sys2Proof
end

