-- ==== Sys2Proof/Tests/Slice0.lean ====
section
/-! SUPPORT. The model's own tests: ill-formed terms refused, words written out from the encoding tables, small
examples of the spec, and for every obligation with hypotheses a state and operands that meet them. -/

set_option Elab.async false

namespace Sys2Proof.Tests

open Sys2Proof.Machine

/-! ## Helpers -/

/-- The decoder reads exactly this instruction from these words. -/
def readsAs (p : Port) (ws : List Word) (i : Instr) : Bool :=
  match decode p ws with
  | .ok (j, []) => j == i
  | _ => false

/-- Each first word, followed by the same further words, decodes to its instruction. -/
def reads (p : Port) (rest : List Word) (l : List (Word × Instr)) : Bool := l.all fun e => readsAs p (e.1 :: rest) e.2

/-- The state after a call that goes on. -/
def after (o : Out) : State :=
  match o with
  | .next t => t
  | _ => State.reset

/-- The clip rectangle wide open. -/
def openState : State := { State.reset with clip := ⟨0, 0, 1023, 511⟩ }

/-- Words given to GP0. -/
def gp0s (ws : List Word) (s : State) : State := after (feed ws s)

/-- `n` cells of a row, from column `x`. -/
def row (s : State) (x y : Int) (n : Nat) : List (BitVec 16) := (List.range n).map fun k => s.vram.read (x + k) y

/-! ## Ill-formed instructions are refused (R123, R124, R125) -/

theorem test_wf_fill_x_not_a_multiple_of_16 : (Instr.fill ⟨⟨0, 0, 0⟩, 8, 0, 16, 1⟩).wf = false := by decide

theorem test_wf_fill_x_beyond_vram : (Instr.fill ⟨⟨0, 0, 0⟩, 1024, 0, 16, 1⟩).wf = false := by decide

theorem test_wf_fill_w_not_a_multiple_of_16 : (Instr.fill ⟨⟨0, 0, 0⟩, 0, 0, 17, 1⟩).wf = false := by decide

theorem test_wf_fill_w_beyond_vram : (Instr.fill ⟨⟨0, 0, 0⟩, 0, 0, 1040, 1⟩).wf = false := by decide

theorem test_wf_copy_width_zero : (Instr.vcopy ⟨0, 0, 0, 0, 0, 1⟩).wf = false := by decide

theorem test_wf_copy_width_beyond : (Instr.vcopy ⟨0, 0, 0, 0, 1025, 1⟩).wf = false := by decide

theorem test_wf_copy_height_zero : (Instr.vcopyX9F ⟨0, 0, 0, 0, 1, 0⟩).wf = false := by decide

theorem test_wf_copy_height_beyond : (Instr.vcopyX9F ⟨0, 0, 0, 0, 1, 513⟩).wf = false := by decide

theorem test_wf_transfer_width : (Instr.imgin ⟨0, 0, 0, 1⟩).wf = false ∧ (Instr.imgout ⟨0, 0, 1025, 1⟩).wf = false := by
  decide

theorem test_wf_transfer_height : (Instr.imgin ⟨0, 0, 1, 0⟩).wf = false ∧ (Instr.imgout ⟨0, 0, 1, 513⟩).wf = false := by
  decide

/-! ## Decoding words written out from the encoding tables -/

/-- A command cut short is refused by name. -/
theorem test_decode_truncated :
    (match decode .gp0 [0x3C000000#32, 0#32] with
      | .error e => e == .truncated 0x3C#8
      | .ok _ => false) = true ∧
    (match decode .gp1 [] with
      | .error e => e == .noWord
      | .ok _ => false) = true := by decide

/-- R129, R150 to R152: bits outside the fields are set and ignored. -/
theorem test_decode_no_operands_gp0 : reads .gp0 [] [
      (0x00123456#32, .nop), (0x01123456#32, .flush), (0x03123456#32, .rsvd03), (0x04123456#32, .rsvd04),
      (0x05123456#32, .rsvd05), (0x06123456#32, .rsvd06), (0x07123456#32, .rsvd07), (0x08123456#32, .rsvd08),
      (0x09123456#32, .rsvd09), (0x0A123456#32, .rsvd0A), (0x0B123456#32, .rsvd0B), (0x0C123456#32, .rsvd0C),
      (0x0D123456#32, .rsvd0D), (0x0E123456#32, .rsvd0E), (0x0F123456#32, .rsvd0F), (0x10123456#32, .rsvd10),
      (0x11123456#32, .rsvd11), (0x12123456#32, .rsvd12), (0x13123456#32, .rsvd13), (0x14123456#32, .rsvd14),
      (0x15123456#32, .rsvd15), (0x16123456#32, .rsvd16), (0x17123456#32, .rsvd17), (0x18123456#32, .rsvd18),
      (0x19123456#32, .rsvd19), (0x1A123456#32, .rsvd1A), (0x1B123456#32, .rsvd1B), (0x1C123456#32, .rsvd1C),
      (0x1D123456#32, .rsvd1D), (0x1E123456#32, .rsvd1E), (0x1F123456#32, .rsvd1F), (0xE0123456#32, .rsvdE0),
      (0xE7123456#32, .rsvdE7), (0xE8123456#32, .rsvdE8), (0xE9123456#32, .rsvdE9), (0xEA123456#32, .rsvdEA),
      (0xEB123456#32, .rsvdEB), (0xEC123456#32, .rsvdEC), (0xED123456#32, .rsvdED), (0xEE123456#32, .rsvdEE),
      (0xEF123456#32, .rsvdEF), (0xF0123456#32, .rsvdF0), (0xF1123456#32, .rsvdF1), (0xF2123456#32, .rsvdF2),
      (0xF3123456#32, .rsvdF3), (0xF4123456#32, .rsvdF4), (0xF5123456#32, .rsvdF5), (0xF6123456#32, .rsvdF6),
      (0xF7123456#32, .rsvdF7), (0xF8123456#32, .rsvdF8), (0xF9123456#32, .rsvdF9), (0xFA123456#32, .rsvdFA),
      (0xFB123456#32, .rsvdFB), (0xFC123456#32, .rsvdFC), (0xFD123456#32, .rsvdFD), (0xFE123456#32, .rsvdFE),
      (0xFF123456#32, .rsvdFF)] = true := by decide +kernel

/-- R127, R351 to R353, R363: bits outside the fields are set and ignored. -/
theorem test_decode_no_operands_gp1 : reads .gp1 [] [
      (0x00123456#32, .g1Reset), (0x01123456#32, .g1Abort), (0x02123456#32, .g1Ack), (0x09123456#32, .g1Rsvd09),
      (0x0A123456#32, .g1Rsvd0A), (0x0B123456#32, .g1Rsvd0B), (0x0C123456#32, .g1Rsvd0C), (0x0D123456#32, .g1Rsvd0D),
      (0x0E123456#32, .g1Rsvd0E), (0x0F123456#32, .g1Rsvd0F), (0x20123456#32, .g1Rsvd20), (0x21123456#32, .g1Rsvd21),
      (0x22123456#32, .g1Rsvd22), (0x23123456#32, .g1Rsvd23), (0x24123456#32, .g1Rsvd24), (0x25123456#32, .g1Rsvd25),
      (0x26123456#32, .g1Rsvd26), (0x27123456#32, .g1Rsvd27), (0x28123456#32, .g1Rsvd28), (0x29123456#32, .g1Rsvd29),
      (0x2A123456#32, .g1Rsvd2A), (0x2B123456#32, .g1Rsvd2B), (0x2C123456#32, .g1Rsvd2C), (0x2D123456#32, .g1Rsvd2D),
      (0x2E123456#32, .g1Rsvd2E), (0x2F123456#32, .g1Rsvd2F), (0x30123456#32, .g1Rsvd30), (0x31123456#32, .g1Rsvd31),
      (0x32123456#32, .g1Rsvd32), (0x33123456#32, .g1Rsvd33), (0x34123456#32, .g1Rsvd34), (0x35123456#32, .g1Rsvd35),
      (0x36123456#32, .g1Rsvd36), (0x37123456#32, .g1Rsvd37), (0x38123456#32, .g1Rsvd38), (0x39123456#32, .g1Rsvd39),
      (0x3A123456#32, .g1Rsvd3A), (0x3B123456#32, .g1Rsvd3B), (0x3C123456#32, .g1Rsvd3C), (0x3D123456#32, .g1Rsvd3D),
      (0x3E123456#32, .g1Rsvd3E), (0x3F123456#32, .g1Rsvd3F)] = true := by decide +kernel

/-- Operands read off the words of the test below. -/
def aFill : Fill := ⟨⟨18, 154, 229⟩, 0x3E0, 0x1FF, 1024, 0x101⟩

/-- R123: bits outside the fields are set and ignored. -/
theorem test_decode_fill : reads .gp0 [0xFFFFFFEF#32, 0xFF01FFF1#32] [
      (0x02E59A12#32, .fill aFill)] = true := by decide +kernel

/-- Operands read off the words of the test below. -/
def aFlatTri : FlatTri := ⟨⟨18, 154, 229⟩, ⟨0x7FE, 0x1⟩, ⟨0x3, 0x7FF⟩, ⟨0x400, 0x155⟩⟩

/-- R119: bits outside the fields are set and ignored. -/
theorem test_decode_flat_tri : reads .gp0 [0xD801AFFE#32, 0xDFFFA803#32, 0xD955AC00#32] [
      (0x20E59A12#32, .polyF3 aFlatTri), (0x21E59A12#32, .polyF3R aFlatTri), (0x22E59A12#32, .polyF3S aFlatTri),
      (0x23E59A12#32, .polyF3SR aFlatTri)] = true := by decide +kernel

/-- Operands read off the words of the test below. -/
def aFlatTriTex : FlatTriTex := ⟨⟨18, 154, 229⟩, ⟨0x7FE, 0x1⟩, ⟨129, 126⟩, ⟨0b110101, 0b100000001⟩, ⟨0x3, 0x7FF⟩, ⟨134, 135⟩, ⟨0b1010, 1, 2, 1⟩, ⟨0x400, 0x155⟩, ⟨139, 144⟩⟩

/-- R119: bits outside the fields are set and ignored. -/
theorem test_decode_flat_tri_tex : reads .gp0 [0xD801AFFE#32, 0xC0757E81#32, 0xDFFFA803#32, 0xFEDA8786#32, 0xD955AC00#32, 0xABCD908B#32] [
      (0x24E59A12#32, .polyF3T aFlatTriTex), (0x25E59A12#32, .polyF3TR aFlatTriTex),
      (0x26E59A12#32, .polyF3TS aFlatTriTex), (0x27E59A12#32, .polyF3TSR aFlatTriTex)] = true := by decide +kernel

/-- Operands read off the words of the test below. -/
def aFlatQuad : FlatQuad := ⟨⟨18, 154, 229⟩, ⟨0x7FE, 0x1⟩, ⟨0x3, 0x7FF⟩, ⟨0x400, 0x155⟩, ⟨0x3FF, 0x400⟩⟩

/-- R119: bits outside the fields are set and ignored. -/
theorem test_decode_flat_quad : reads .gp0 [0xD801AFFE#32, 0xDFFFA803#32, 0xD955AC00#32, 0xDC00ABFF#32] [
      (0x28E59A12#32, .polyF4 aFlatQuad), (0x29E59A12#32, .polyF4R aFlatQuad), (0x2AE59A12#32, .polyF4S aFlatQuad),
      (0x2BE59A12#32, .polyF4SR aFlatQuad)] = true := by decide +kernel

/-- Operands read off the words of the test below. -/
def aFlatQuadTex : FlatQuadTex := ⟨⟨18, 154, 229⟩, ⟨0x7FE, 0x1⟩, ⟨129, 126⟩, ⟨0b110101, 0b100000001⟩, ⟨0x3, 0x7FF⟩, ⟨134, 135⟩, ⟨0b1010, 1, 2, 1⟩, ⟨0x400, 0x155⟩, ⟨139, 144⟩, ⟨0x3FF, 0x400⟩, ⟨144, 153⟩⟩

/-- R119: bits outside the fields are set and ignored. -/
theorem test_decode_flat_quad_tex : reads .gp0 [0xD801AFFE#32, 0xC0757E81#32, 0xDFFFA803#32, 0xFEDA8786#32, 0xD955AC00#32, 0xABCD908B#32, 0xDC00ABFF#32, 0xABCD9990#32] [
      (0x2CE59A12#32, .polyF4T aFlatQuadTex), (0x2DE59A12#32, .polyF4TR aFlatQuadTex),
      (0x2EE59A12#32, .polyF4TS aFlatQuadTex), (0x2FE59A12#32, .polyF4TSR aFlatQuadTex)] = true := by decide +kernel

/-- Operands read off the words of the test below. -/
def aGourTri : GourTri := ⟨⟨18, 154, 229⟩, ⟨0x7FE, 0x1⟩, ⟨35, 185, 236⟩, ⟨0x3, 0x7FF⟩, ⟨52, 216, 243⟩, ⟨0x400, 0x155⟩⟩

/-- R119: bits outside the fields are set and ignored. -/
theorem test_decode_gour_tri : reads .gp0 [0xD801AFFE#32, 0xC3ECB923#32, 0xDFFFA803#32, 0xC3F3D834#32, 0xD955AC00#32] [
      (0x30E59A12#32, .polyG3 aGourTri), (0x31E59A12#32, .polyG3R aGourTri), (0x32E59A12#32, .polyG3S aGourTri),
      (0x33E59A12#32, .polyG3SR aGourTri)] = true := by decide +kernel

/-- Operands read off the words of the test below. -/
def aGourTriTex : GourTriTex := ⟨⟨18, 154, 229⟩, ⟨0x7FE, 0x1⟩, ⟨129, 126⟩, ⟨0b110101, 0b100000001⟩, ⟨35, 185, 236⟩, ⟨0x3, 0x7FF⟩, ⟨134, 135⟩, ⟨0b1010, 1, 2, 1⟩, ⟨52, 216, 243⟩, ⟨0x400, 0x155⟩, ⟨139, 144⟩⟩

/-- R119: bits outside the fields are set and ignored. -/
theorem test_decode_gour_tri_tex : reads .gp0 [0xD801AFFE#32, 0xC0757E81#32, 0xC3ECB923#32, 0xDFFFA803#32, 0xFEDA8786#32, 0xC3F3D834#32, 0xD955AC00#32, 0xABCD908B#32] [
      (0x34E59A12#32, .polyG3T aGourTriTex), (0x35E59A12#32, .polyG3TR aGourTriTex),
      (0x36E59A12#32, .polyG3TS aGourTriTex), (0x37E59A12#32, .polyG3TSR aGourTriTex)] = true := by decide +kernel

/-- Operands read off the words of the test below. -/
def aGourQuad : GourQuad := ⟨⟨18, 154, 229⟩, ⟨0x7FE, 0x1⟩, ⟨35, 185, 236⟩, ⟨0x3, 0x7FF⟩, ⟨52, 216, 243⟩, ⟨0x400, 0x155⟩, ⟨69, 247, 250⟩, ⟨0x3FF, 0x400⟩⟩

/-- R119: bits outside the fields are set and ignored. -/
theorem test_decode_gour_quad : reads .gp0 [0xD801AFFE#32, 0xC3ECB923#32, 0xDFFFA803#32, 0xC3F3D834#32, 0xD955AC00#32, 0xC3FAF745#32, 0xDC00ABFF#32] [
      (0x38E59A12#32, .polyG4 aGourQuad), (0x39E59A12#32, .polyG4R aGourQuad), (0x3AE59A12#32, .polyG4S aGourQuad),
      (0x3BE59A12#32, .polyG4SR aGourQuad)] = true := by decide +kernel

/-- Operands read off the words of the test below. -/
def aGourQuadTex : GourQuadTex := ⟨⟨18, 154, 229⟩, ⟨0x7FE, 0x1⟩, ⟨129, 126⟩, ⟨0b110101, 0b100000001⟩, ⟨35, 185, 236⟩, ⟨0x3, 0x7FF⟩, ⟨134, 135⟩, ⟨0b1010, 1, 2, 1⟩, ⟨52, 216, 243⟩, ⟨0x400, 0x155⟩, ⟨139, 144⟩, ⟨69, 247, 250⟩, ⟨0x3FF, 0x400⟩, ⟨144, 153⟩⟩

/-- R119: bits outside the fields are set and ignored. -/
theorem test_decode_gour_quad_tex : reads .gp0 [0xD801AFFE#32, 0xC0757E81#32, 0xC3ECB923#32, 0xDFFFA803#32, 0xFEDA8786#32, 0xC3F3D834#32, 0xD955AC00#32, 0xABCD908B#32, 0xC3FAF745#32, 0xDC00ABFF#32, 0xABCD9990#32] [
      (0x3CE59A12#32, .polyG4T aGourQuadTex), (0x3DE59A12#32, .polyG4TR aGourQuadTex),
      (0x3EE59A12#32, .polyG4TS aGourQuadTex), (0x3FE59A12#32, .polyG4TSR aGourQuadTex)] = true := by decide +kernel

/-- Operands read off the words of the test below. -/
def aFlatLine : FlatLine := ⟨⟨18, 154, 229⟩, ⟨0x7FE, 0x1⟩, ⟨0x3, 0x7FF⟩⟩

/-- R120: bits outside the fields are set and ignored. -/
theorem test_decode_flat_line : reads .gp0 [0xD801AFFE#32, 0xDFFFA803#32] [
      (0x40E59A12#32, .lineF aFlatLine), (0x41E59A12#32, .lineFX41 aFlatLine), (0x42E59A12#32, .lineFS aFlatLine),
      (0x43E59A12#32, .lineFSX43 aFlatLine), (0x44E59A12#32, .lineFX44 aFlatLine),
      (0x45E59A12#32, .lineFX45 aFlatLine), (0x46E59A12#32, .lineFSX46 aFlatLine),
      (0x47E59A12#32, .lineFSX47 aFlatLine), (0x48E59A12#32, .plineF aFlatLine),
      (0x49E59A12#32, .plineFX49 aFlatLine), (0x4AE59A12#32, .plineFS aFlatLine),
      (0x4BE59A12#32, .plineFSX4B aFlatLine), (0x4CE59A12#32, .plineFX4C aFlatLine),
      (0x4DE59A12#32, .plineFX4D aFlatLine), (0x4EE59A12#32, .plineFSX4E aFlatLine),
      (0x4FE59A12#32, .plineFSX4F aFlatLine)] = true := by decide +kernel

/-- Operands read off the words of the test below. -/
def aGourLine : GourLine := ⟨⟨18, 154, 229⟩, ⟨0x7FE, 0x1⟩, ⟨35, 185, 236⟩, ⟨0x3, 0x7FF⟩⟩

/-- R120: bits outside the fields are set and ignored. -/
theorem test_decode_gour_line : reads .gp0 [0xD801AFFE#32, 0xC3ECB923#32, 0xDFFFA803#32] [
      (0x50E59A12#32, .lineG aGourLine), (0x51E59A12#32, .lineGX51 aGourLine), (0x52E59A12#32, .lineGS aGourLine),
      (0x53E59A12#32, .lineGSX53 aGourLine), (0x54E59A12#32, .lineGX54 aGourLine),
      (0x55E59A12#32, .lineGX55 aGourLine), (0x56E59A12#32, .lineGSX56 aGourLine),
      (0x57E59A12#32, .lineGSX57 aGourLine), (0x58E59A12#32, .plineG aGourLine),
      (0x59E59A12#32, .plineGX59 aGourLine), (0x5AE59A12#32, .plineGS aGourLine),
      (0x5BE59A12#32, .plineGSX5B aGourLine), (0x5CE59A12#32, .plineGX5C aGourLine),
      (0x5DE59A12#32, .plineGX5D aGourLine), (0x5EE59A12#32, .plineGSX5E aGourLine),
      (0x5FE59A12#32, .plineGSX5F aGourLine)] = true := by decide +kernel

/-- Operands read off the words of the test below. -/
def aRectVar : RectVar := ⟨⟨18, 154, 229⟩, ⟨0x7FE, 0x1⟩, 0x3FF, 0x1FE⟩

/-- R122: bits outside the fields are set and ignored. -/
theorem test_decode_rect_var : reads .gp0 [0xD801AFFE#32, 0xFFFEFFFF#32] [
      (0x60E59A12#32, .rectV aRectVar), (0x61E59A12#32, .rectVR aRectVar), (0x62E59A12#32, .rectVS aRectVar),
      (0x63E59A12#32, .rectVSR aRectVar)] = true := by decide +kernel

/-- Operands read off the words of the test below. -/
def aRectVarTex : RectVarTex := ⟨⟨18, 154, 229⟩, ⟨0x7FE, 0x1⟩, ⟨129, 126⟩, ⟨0b110101, 0b100000001⟩, 0x3FF, 0x1FE⟩

/-- R122: bits outside the fields are set and ignored. -/
theorem test_decode_rect_var_tex : reads .gp0 [0xD801AFFE#32, 0xC0757E81#32, 0xFFFEFFFF#32] [
      (0x64E59A12#32, .rectVT aRectVarTex), (0x65E59A12#32, .rectVTR aRectVarTex),
      (0x66E59A12#32, .rectVTS aRectVarTex), (0x67E59A12#32, .rectVTSR aRectVarTex)] = true := by decide +kernel

/-- Operands read off the words of the test below. -/
def aRectFix : RectFix := ⟨⟨18, 154, 229⟩, ⟨0x7FE, 0x1⟩⟩

/-- R122: bits outside the fields are set and ignored. -/
theorem test_decode_rect_fix : reads .gp0 [0xD801AFFE#32] [
      (0x68E59A12#32, .rect1 aRectFix), (0x69E59A12#32, .rect1R aRectFix), (0x6AE59A12#32, .rect1S aRectFix),
      (0x6BE59A12#32, .rect1SR aRectFix), (0x70E59A12#32, .rect8 aRectFix), (0x71E59A12#32, .rect8R aRectFix),
      (0x72E59A12#32, .rect8S aRectFix), (0x73E59A12#32, .rect8SR aRectFix), (0x78E59A12#32, .rect16 aRectFix),
      (0x79E59A12#32, .rect16R aRectFix), (0x7AE59A12#32, .rect16S aRectFix), (0x7BE59A12#32, .rect16SR aRectFix)] = true := by decide +kernel

/-- Operands read off the words of the test below. -/
def aRectFixTex : RectFixTex := ⟨⟨18, 154, 229⟩, ⟨0x7FE, 0x1⟩, ⟨129, 126⟩, ⟨0b110101, 0b100000001⟩⟩

/-- R122: bits outside the fields are set and ignored. -/
theorem test_decode_rect_fix_tex : reads .gp0 [0xD801AFFE#32, 0xC0757E81#32] [
      (0x6CE59A12#32, .rect1T aRectFixTex), (0x6DE59A12#32, .rect1TR aRectFixTex),
      (0x6EE59A12#32, .rect1TS aRectFixTex), (0x6FE59A12#32, .rect1TSR aRectFixTex),
      (0x74E59A12#32, .rect8T aRectFixTex), (0x75E59A12#32, .rect8TR aRectFixTex),
      (0x76E59A12#32, .rect8TS aRectFixTex), (0x77E59A12#32, .rect8TSR aRectFixTex),
      (0x7CE59A12#32, .rect16T aRectFixTex), (0x7DE59A12#32, .rect16TR aRectFixTex),
      (0x7EE59A12#32, .rect16TS aRectFixTex), (0x7FE59A12#32, .rect16TSR aRectFixTex)] = true := by decide +kernel

/-- Operands read off the words of the test below. -/
def aCopy : Copy := ⟨1, 2, 0x3FF, 0x1FF, 1024, 512⟩

/-- R124: bits outside the fields are set and ignored. -/
theorem test_decode_copy : reads .gp0 [0xFE02FC01#32, 0xFFFFFFFF#32, 0xFE00FC00#32] [
      (0x80ABCDEF#32, .vcopy aCopy), (0x81ABCDEF#32, .vcopyX81 aCopy), (0x82ABCDEF#32, .vcopyX82 aCopy),
      (0x83ABCDEF#32, .vcopyX83 aCopy), (0x84ABCDEF#32, .vcopyX84 aCopy), (0x85ABCDEF#32, .vcopyX85 aCopy),
      (0x86ABCDEF#32, .vcopyX86 aCopy), (0x87ABCDEF#32, .vcopyX87 aCopy), (0x88ABCDEF#32, .vcopyX88 aCopy),
      (0x89ABCDEF#32, .vcopyX89 aCopy), (0x8AABCDEF#32, .vcopyX8A aCopy), (0x8BABCDEF#32, .vcopyX8B aCopy),
      (0x8CABCDEF#32, .vcopyX8C aCopy), (0x8DABCDEF#32, .vcopyX8D aCopy), (0x8EABCDEF#32, .vcopyX8E aCopy),
      (0x8FABCDEF#32, .vcopyX8F aCopy), (0x90ABCDEF#32, .vcopyX90 aCopy), (0x91ABCDEF#32, .vcopyX91 aCopy),
      (0x92ABCDEF#32, .vcopyX92 aCopy), (0x93ABCDEF#32, .vcopyX93 aCopy), (0x94ABCDEF#32, .vcopyX94 aCopy),
      (0x95ABCDEF#32, .vcopyX95 aCopy), (0x96ABCDEF#32, .vcopyX96 aCopy), (0x97ABCDEF#32, .vcopyX97 aCopy),
      (0x98ABCDEF#32, .vcopyX98 aCopy), (0x99ABCDEF#32, .vcopyX99 aCopy), (0x9AABCDEF#32, .vcopyX9A aCopy),
      (0x9BABCDEF#32, .vcopyX9B aCopy), (0x9CABCDEF#32, .vcopyX9C aCopy), (0x9DABCDEF#32, .vcopyX9D aCopy),
      (0x9EABCDEF#32, .vcopyX9E aCopy), (0x9FABCDEF#32, .vcopyX9F aCopy)] = true := by decide +kernel

/-- Operands read off the words of the test below. -/
def aXfer : Xfer := ⟨3, 4, 5, 3⟩

/-- R125: bits outside the fields are set and ignored. -/
theorem test_decode_xfer : reads .gp0 [0xFE04FC03#32, 0xFE03FC05#32] [
      (0xA0ABCDEF#32, .imgin aXfer), (0xA1ABCDEF#32, .imginXA1 aXfer), (0xA2ABCDEF#32, .imginXA2 aXfer),
      (0xA3ABCDEF#32, .imginXA3 aXfer), (0xA4ABCDEF#32, .imginXA4 aXfer), (0xA5ABCDEF#32, .imginXA5 aXfer),
      (0xA6ABCDEF#32, .imginXA6 aXfer), (0xA7ABCDEF#32, .imginXA7 aXfer), (0xA8ABCDEF#32, .imginXA8 aXfer),
      (0xA9ABCDEF#32, .imginXA9 aXfer), (0xAAABCDEF#32, .imginXAA aXfer), (0xABABCDEF#32, .imginXAB aXfer),
      (0xACABCDEF#32, .imginXAC aXfer), (0xADABCDEF#32, .imginXAD aXfer), (0xAEABCDEF#32, .imginXAE aXfer),
      (0xAFABCDEF#32, .imginXAF aXfer), (0xB0ABCDEF#32, .imginXB0 aXfer), (0xB1ABCDEF#32, .imginXB1 aXfer),
      (0xB2ABCDEF#32, .imginXB2 aXfer), (0xB3ABCDEF#32, .imginXB3 aXfer), (0xB4ABCDEF#32, .imginXB4 aXfer),
      (0xB5ABCDEF#32, .imginXB5 aXfer), (0xB6ABCDEF#32, .imginXB6 aXfer), (0xB7ABCDEF#32, .imginXB7 aXfer),
      (0xB8ABCDEF#32, .imginXB8 aXfer), (0xB9ABCDEF#32, .imginXB9 aXfer), (0xBAABCDEF#32, .imginXBA aXfer),
      (0xBBABCDEF#32, .imginXBB aXfer), (0xBCABCDEF#32, .imginXBC aXfer), (0xBDABCDEF#32, .imginXBD aXfer),
      (0xBEABCDEF#32, .imginXBE aXfer), (0xBFABCDEF#32, .imginXBF aXfer), (0xC0ABCDEF#32, .imgout aXfer),
      (0xC1ABCDEF#32, .imgoutXC1 aXfer), (0xC2ABCDEF#32, .imgoutXC2 aXfer), (0xC3ABCDEF#32, .imgoutXC3 aXfer),
      (0xC4ABCDEF#32, .imgoutXC4 aXfer), (0xC5ABCDEF#32, .imgoutXC5 aXfer), (0xC6ABCDEF#32, .imgoutXC6 aXfer),
      (0xC7ABCDEF#32, .imgoutXC7 aXfer), (0xC8ABCDEF#32, .imgoutXC8 aXfer), (0xC9ABCDEF#32, .imgoutXC9 aXfer),
      (0xCAABCDEF#32, .imgoutXCA aXfer), (0xCBABCDEF#32, .imgoutXCB aXfer), (0xCCABCDEF#32, .imgoutXCC aXfer),
      (0xCDABCDEF#32, .imgoutXCD aXfer), (0xCEABCDEF#32, .imgoutXCE aXfer), (0xCFABCDEF#32, .imgoutXCF aXfer),
      (0xD0ABCDEF#32, .imgoutXD0 aXfer), (0xD1ABCDEF#32, .imgoutXD1 aXfer), (0xD2ABCDEF#32, .imgoutXD2 aXfer),
      (0xD3ABCDEF#32, .imgoutXD3 aXfer), (0xD4ABCDEF#32, .imgoutXD4 aXfer), (0xD5ABCDEF#32, .imgoutXD5 aXfer),
      (0xD6ABCDEF#32, .imgoutXD6 aXfer), (0xD7ABCDEF#32, .imgoutXD7 aXfer), (0xD8ABCDEF#32, .imgoutXD8 aXfer),
      (0xD9ABCDEF#32, .imgoutXD9 aXfer), (0xDAABCDEF#32, .imgoutXDA aXfer), (0xDBABCDEF#32, .imgoutXDB aXfer),
      (0xDCABCDEF#32, .imgoutXDC aXfer), (0xDDABCDEF#32, .imgoutXDD aXfer), (0xDEABCDEF#32, .imgoutXDE aXfer),
      (0xDFABCDEF#32, .imgoutXDF aXfer)] = true := by decide +kernel

/-- Operands read off the words of the test below. -/
def aSetMode : SetMode := ⟨⟨5, 1, 2, 1⟩, false, true⟩

/-- R126: bits outside the fields are set and ignored. -/
theorem test_decode_set_mode : reads .gp0 [] [
      (0xE1FFFCD5#32, .setmode aSetMode)] = true := by decide +kernel

/-- Operands read off the words of the test below. -/
def aSetTw : SetTw := ⟨0x11, 0x0A, 0x1F, 0x15⟩

/-- R126: bits outside the fields are set and ignored. -/
theorem test_decode_set_tw : reads .gp0 [] [
      (0xE2FAFD51#32, .settw aSetTw)] = true := by decide +kernel

/-- Operands read off the words of the test below. -/
def aSetClip : SetClip := ⟨0x2A5, 0x1C3⟩

/-- R126: bits outside the fields are set and ignored. -/
theorem test_decode_set_clip : reads .gp0 [] [
      (0xE3FF0EA5#32, .setclip1 aSetClip), (0xE4FF0EA5#32, .setclip2 aSetClip)] = true := by decide +kernel

/-- Operands read off the words of the test below. -/
def aSetOfs : SetOfs := ⟨0x7FF, 0x400⟩

/-- R126: bits outside the fields are set and ignored. -/
theorem test_decode_set_ofs : reads .gp0 [] [
      (0xE5E007FF#32, .setofs aSetOfs)] = true := by decide +kernel

/-- Operands read off the words of the test below. -/
def aSetMask : SetMask := ⟨false, true⟩

/-- R126: bits outside the fields are set and ignored. -/
theorem test_decode_set_mask : reads .gp0 [] [
      (0xE6FFFFFE#32, .setmask aSetMask)] = true := by decide +kernel

/-- Operands read off the words of the test below. -/
def aDispEn : DispEn := ⟨true⟩

/-- R127: bits outside the fields are set and ignored. -/
theorem test_decode_disp_en : reads .gp1 [] [
      (0xC3FFFFFF#32, .g1Dispen aDispEn)] = true := by decide +kernel

/-- Operands read off the words of the test below. -/
def aDmaDir : DmaDir := ⟨2⟩

/-- R127: bits outside the fields are set and ignored. -/
theorem test_decode_dma_dir : reads .gp1 [] [
      (0xC4FFFFFE#32, .g1Dmadir aDmaDir)] = true := by decide +kernel

/-- Operands read off the words of the test below. -/
def aOrigin : Origin := ⟨0x123, 0x0F1⟩

/-- R127: bits outside the fields are set and ignored. -/
theorem test_decode_origin : reads .gp1 [] [
      (0xC5FBC523#32, .g1Origin aOrigin)] = true := by decide +kernel

/-- Operands read off the words of the test below. -/
def aHRange : HRange := ⟨0x260, 0xC60⟩

/-- R127: bits outside the fields are set and ignored. -/
theorem test_decode_h_range : reads .gp1 [] [
      (0xC6C60260#32, .g1Hrange aHRange)] = true := by decide +kernel

/-- Operands read off the words of the test below. -/
def aVRange : VRange := ⟨0x010, 0x100⟩

/-- R127: bits outside the fields are set and ignored. -/
theorem test_decode_v_range : reads .gp1 [] [
      (0xC7F40010#32, .g1Vrange aVRange)] = true := by decide +kernel

/-- Operands read off the words of the test below. -/
def aMode : Mode := ⟨1, true, false, false, true, true, false⟩

/-- R127: bits outside the fields are set and ignored. -/
theorem test_decode_mode : reads .gp1 [] [
      (0xC8FFFF65#32, .g1Mode aMode)] = true := by decide +kernel

/-- Operands read off the words of the test below. -/
def aInfo : Info := ⟨5⟩

/-- R127: bits outside the fields are set and ignored. -/
theorem test_decode_info : reads .gp1 [] [
      (0xD0FFFFFD#32, .g1Info aInfo), (0xD1FFFFFD#32, .g1InfoX11 aInfo), (0xD2FFFFFD#32, .g1InfoX12 aInfo),
      (0xD3FFFFFD#32, .g1InfoX13 aInfo), (0xD4FFFFFD#32, .g1InfoX14 aInfo), (0xD5FFFFFD#32, .g1InfoX15 aInfo),
      (0xD6FFFFFD#32, .g1InfoX16 aInfo), (0xD7FFFFFD#32, .g1InfoX17 aInfo), (0xD8FFFFFD#32, .g1InfoX18 aInfo),
      (0xD9FFFFFD#32, .g1InfoX19 aInfo), (0xDAFFFFFD#32, .g1InfoX1A aInfo), (0xDBFFFFFD#32, .g1InfoX1B aInfo),
      (0xDCFFFFFD#32, .g1InfoX1C aInfo), (0xDDFFFFFD#32, .g1InfoX1D aInfo), (0xDEFFFFFD#32, .g1InfoX1E aInfo),
      (0xDFFFFFFD#32, .g1InfoX1F aInfo)] = true := by decide +kernel

/-! ## Table words and the words stored for them (R81; log entry 4) -/

/-- A row of one word, and one whose operand words the table gives no bits. -/
theorem test_decode_table_word :
    decodeTableWord 32 0xE6000003 = some (.setmask ⟨true, true⟩) ∧
      decodeTableWord 32 0x02563412 = some (.fill ⟨⟨0x12, 0x34, 0x56⟩, 0, 0, 0, 0⟩) := by decide +kernel

/-- The word placed is the next to run: a FILL of 16 by 4 cells from reset. -/
theorem test_with_fetch_word_runs :
    row (after (step (State.reset.withFetchWord 96 0x0004001000000000020000FF))) 14 3 3 = [0x1F, 0x1F, 0] := by
  decide +kernel

/-! ## Examples of the spec, one command each -/

/-- R190's example: `0x020000FF, 0x00000000, 0x00040010` fills 16 by 4 cells with `0x001F`. -/
theorem test_fill_example :
    row (after (exec (.fill ⟨⟨255, 0, 0⟩, 0, 0, 16, 4⟩) State.reset)) 15 3 2 = [0x1F, 0] ∧
      row (after (exec (.fill ⟨⟨255, 0, 0⟩, 0, 0, 16, 4⟩) State.reset)) 0 4 1 = [0] := by decide +kernel

/-- A state whose row 0 starts with four known cells, the second with its mask bit set. -/
def rowState : State :=
  { openState with vram := { openState.vram with native := [(0, 1), (2, 2), (3, 0x80), (4, 3), (6, 4)] } }

/-- R192's example: a copy one cell to the right reads before it writes. -/
theorem test_copy_example :
    row (after (exec (.vcopy ⟨0, 0, 1, 0, 4, 1⟩) rowState)) 0 0 6 = [1, 1, 0x8002, 3, 4, 0] := by decide +kernel

/-- Under check-mask a copy leaves a masked cell as it is (R76). -/
theorem test_copy_checks_mask :
    row (after (exec (.vcopy ⟨0, 0, 1, 0, 2, 1⟩) { rowState with msk := ⟨false, true⟩ })) 0 0 4 = [1, 0x8002, 0x8002, 4] := by
  decide +kernel

/-- An odd image: the upper half of the last data word is dropped (R82, R195). -/
theorem test_image_in_odd :
    row (gp0s [0xA0000000, 0x00010001, 0x00010003, 0x22221111, 0xDEAD3333] State.reset) 0 1 5 =
      [0, 0x1111, 0x2222, 0x3333, 0] := by decide +kernel

/-- An image-in of width 6 under 24-bit output tags its cells by their place in the row (R83, R196). -/
theorem test_image_in_24_bit :
    (List.range 4).map (fun k => (gp0s [0xA0000000, 0, 0x00010006, 1, 2, 3]
      { State.reset with pend := { State.reset.pend with c24 := true } }).vram.tag k 0) = [1, 2, 3, 1] := by decide +kernel

/-- R199's example, with an odd count: the upper half of the last word is 0 (R82). -/
theorem test_image_out_odd : (drain 3 (after (exec (.imgout ⟨0, 0, 3, 1⟩) rowState))).1 = [0x80020001, 3, 3] := by
  decide +kernel

/-- R302's example: `rgb(64, 64, 64)` is written as `0x2108`, with the mask bit of set-mask. -/
theorem test_rect_flat :
    row (after (exec (.rect1 ⟨⟨64, 64, 64⟩, ⟨2, 1⟩⟩) { openState with msk := ⟨true, false⟩ })) 1 1 3 = [0, 0xA108, 0] := by
  decide +kernel

/-- Opaque rectangle clipped at the right edge of the clip rectangle (R264). -/
theorem test_rect_clipped :
    row (after (exec (.rectV ⟨⟨255, 0, 0⟩, ⟨2, 0⟩, 5, 1⟩) { openState with clip := ⟨0, 0, 3, 3⟩ })) 0 0 6 =
      [0, 0, 0x1F, 0x1F, 0, 0] := by decide +kernel

/-- R308's examples with `B = 8`: `F = 31` gives 19, 31, 0, 15. -/
theorem test_blend_functions : [0, 1, 2, 3].map (fun a : BitVec 2 => blend a 8 31) = [19, 31, 0, 15] := by decide

/-- R308's examples with `B = 31`: `F = 4` gives 17, 31, 27, 31. -/
theorem test_blend_saturates : [0, 1, 2, 3].map (fun a : BitVec 2 => blend a 31 4) = [17, 31, 27, 31] := by decide

/-- R305's examples. -/
theorem test_modulate :
    [modulate 16 0x80, modulate 16 0xFF, modulate 31 0xFF, modulate 1 0x7F, modulate 20 0x40] = [16, 31, 31, 0, 10] := by
  decide

/-- R303's example: `0xE2000421` maps column 0x13 to 0x1B and row 0x2D to 0x25. -/
theorem test_texture_window : (TexWindow.mk 1 1 1 0).map 0x13 0x2D = (0x1B, 0x25) := by decide

/-- A sprite texel of a 4-bit page through its palette: nibble 1 of the cell is index 2, palette entry 2 is 3; a zero
texel is not written (R300, R304). -/
def spriteState : State :=
  { openState with vram := { openState.vram with native := [(2 * 320, 0x21), (2 * (1024 * 480 + 2), 3)] } }

theorem test_sprite_4_bit :
    row (after (exec (.rectVTR ⟨⟨128, 128, 128⟩, ⟨0, 0⟩, ⟨0, 0⟩, ⟨0, 480⟩, 2, 1⟩)
      { spriteState with dm := { spriteState.dm with tpx := 5 } })) 0 0 3 = [0, 3, 0] := by decide +kernel

/-- The triangle (0,0), (4,0), (0,4) covers ten cells, neither its right edge nor its bottom row (R227, R238). -/
theorem test_triangle_ten_cells :
    (trianglePixels ⟨0, 0, 1023, 511⟩ ⟨false, ⟨255, 0, 0⟩⟩ ⟨0, 0, ⟨0, 0, 0, 0, 0⟩⟩ ⟨4, 0, ⟨0, 0, 0, 0, 0⟩⟩
      ⟨0, 4, ⟨0, 0, 0, 0, 0⟩⟩).map (fun p => (p.x, p.y)) =
      [(0, 0), (1, 0), (2, 0), (3, 0), (0, 1), (1, 1), (2, 1), (0, 2), (1, 2), (0, 3)] := by decide +kernel

/-- A line between inside points plots both of its ends (R285). -/
theorem test_line_slope : lineCells (0, 0) (4, 2) = [(0, 0), (1, 0), (2, 1), (3, 1), (4, 2)] := by decide +kernel

/-- A semi-transparent polyline is drawn opaque and raises its diagnostic once (R293). -/
theorem test_polyline_diagnostic :
    (after (exec (.plineFS ⟨⟨255, 0, 0⟩, ⟨0, 0⟩, ⟨2, 0⟩⟩) openState)).trace =
      [.initDisplay, .acquire, .diag .semiPolyline, .release] ∧
    row (after (exec (.plineFS ⟨⟨255, 0, 0⟩, ⟨0, 0⟩, ⟨2, 0⟩⟩) openState)) 0 0 4 = [0x1F, 0x1F, 0x1F, 0] := by decide +kernel

/-- R171's example: `GPUSTAT[10:0]` then reads 0x12A. -/
theorem test_setmode_example : (gp0s [0xE100012A] State.reset).gpuStat = 0x1C80212A#32 := by decide +kernel

/-- R175's example: the offset (-1, -1). -/
theorem test_setofs_negative : (gp0s [0xE53FFFFF] State.reset).ofs = ⟨-1, -1⟩ := by decide +kernel

/-- R174's example: the corner of a 320 by 240 frame. -/
theorem test_setclip2_example : (gp0s [0xE403BD3F] State.reset).clip = ⟨0, 0, 319, 239⟩ := by decide +kernel

/-- R361's example: the offset's info word is returned by the next read. -/
theorem test_info_example :
    (gpuRead (after (exec (.g1Info ⟨5⟩) { State.reset with ofs := ⟨320, 120⟩ }))).1 = 0x0003C140#32 := by decide +kernel

/-- R354's example. -/
theorem test_dispen_example : (after (gp1Write 0x03000000 State.reset)).gpuStat = 0x1C002000#32 := by decide +kernel

/-- R355's example: direction 2. -/
theorem test_dmadir_example : (after (gp1Write 0x04000002 State.reset)).gpuStat = 0x5E802000#32 := by decide +kernel

/-- R359's example, bits 22:16 of the status word. -/
theorem test_mode_example : ((after (gp1Write 0x08000025 State.reset)).gpuStat).extractLsb' 16 7 = 0b1001010#7 := by
  decide +kernel

/-- R351's example: after SETMASK 3 a soft reset clears bits 12 and 11. -/
theorem test_soft_reset_example :
    (after (gp1Write 0 { State.reset with msk := ⟨true, true⟩, field := true })).gpuStat = 0x9C802000#32 := by decide +kernel

/-- R364's first and second examples of the visible rectangle. -/
theorem test_visible_examples :
    DisplayConfig.visible { DisplayConfig.reset with hx1 := 0x260, hx2 := 0xC60 } = ⟨0, 0, 255, 239⟩ ∧
    DisplayConfig.visible { DisplayConfig.reset with hx1 := 0x260, hx2 := 0xC60, hres1 := 3 } = ⟨0, 0, 639, 239⟩ := by
  decide +kernel

/-- A decision with dirt in view, before and after the dirt interval (R371), with the intervals of the spec's examples. -/
theorem test_decide_dirt :
    (decideWith 20000000 500000000
      { State.reset with pend := State.reset.cur, dirty := some ⟨0, 0, 15, 0⟩, now := 16666667 }).trace = [.initDisplay] ∧
    (decideWith 20000000 500000000 { State.reset with pendingDirty := true, now := 33333334 }).trace =
      [.initDisplay, .refresh .reset] := by decide +kernel

/-- A block transfer of one FLUSH word (R206). -/
theorem test_block_in :
    (after (dmaTransfer 256 1 1 1 { State.reset with
      mainMem := [(256, 0), (257, 0), (258, 0), (259, 1)], tpc := [⟨0, false, []⟩] })).tpc = [] := by decide +kernel

/-! ## Witnesses: for every obligation, a state and operands that meet its hypotheses, clause by clause -/

theorem witness_decode_undoes_encode :
    (Instr.fill ⟨⟨1, 2, 3⟩, 1008, 511, 1024, 511⟩).wf = true ∧ (Instr.vcopy ⟨0, 0, 0, 0, 1, 1⟩).wf = true ∧
      (Instr.imgin ⟨1023, 511, 1024, 512⟩).wf = true := by decide

theorem witness_every_word_decodes :
    opLen (opcodeOf 0x3F000000#32) ≤ (List.replicate 11 0#32).length + 1 ∧ opLen (opcodeOf 0#32) ≤ ([] : List Word).length + 1 := by
  decide

theorem witness_idle_word :
    openState.dstate = .idle ∧ openState.cbuf.length = 12 ∧ opLen (opcodeOf 0xE1000000#32) = 1 ∧
      opLen (opcodeOf 0x20000000#32) ≠ 1 := by decide

/-- A polygon command of which `n` of four words have come. -/
def fillingState (n : Nat) : State :=
  { openState with dstate := .filling, cbuf := 0x20000000#32 :: List.replicate 11 0#32, clen := n, ctarget := 4 }

theorem fillingState_inv_first : (fillingState 1).Inv := by
  refine ⟨?_, ?_, ?_, ?_, ?_, ?_, ?_⟩ <;>
    simp only [State.sequencingWf, State.imageWf, State.readWf, State.vramWf, State.hiddenWf, State.memWf, State.quiet] <;>
    decide

theorem fillingState_inv_last : (fillingState 3).Inv := by
  refine ⟨?_, ?_, ?_, ?_, ?_, ?_, ?_⟩ <;>
    simp only [State.sequencingWf, State.imageWf, State.readWf, State.vramWf, State.hiddenWf, State.memWf, State.quiet] <;>
    decide

theorem witness_filling_first : (fillingState 1).Inv ∧ (fillingState 1).dstate = .filling ∧
    (fillingState 1).clen + 1 < (fillingState 1).ctarget := ⟨fillingState_inv_first, by decide⟩

theorem witness_filling_last : (fillingState 3).Inv ∧ (fillingState 3).dstate = .filling ∧
    (fillingState 3).lock = .free ∧ (fillingState 3).clen + 1 = (fillingState 3).ctarget ∧
    readsAs .gp0 ((fillingState 3).cbuf.take 3 ++ [0#32]) (.polyF3 ⟨⟨0, 0, 0⟩, ⟨0, 0⟩, ⟨0, 0⟩, ⟨0, 0⟩⟩) = true :=
  ⟨fillingState_inv_last, by decide⟩

theorem witness_step_runs_gp0 :
    { openState with calls := [.gp0Write 0xE6000001#32] }.calls = .gp0Write 0xE6000001#32 :: [] ∧
      openState.dstate = .idle ∧ openState.cbuf.length = 12 ∧
      decode .gp0 [0xE6000001#32] = .ok (.setmask ⟨true, false⟩, []) := ⟨rfl, rfl, rfl, rfl⟩

theorem witness_step_runs_gp0_last :
    { fillingState 3 with calls := [.gp0Write 0#32] }.calls = .gp0Write 0#32 :: [] ∧
      { fillingState 3 with calls := [.gp0Write 0#32] }.Inv := by
  refine ⟨rfl, ⟨?_, ?_, ?_, ?_, ?_, ?_, ?_⟩⟩ <;>
    simp only [State.sequencingWf, State.imageWf, State.readWf, State.vramWf, State.hiddenWf, State.memWf, State.quiet] <;>
    decide

theorem witness_step_runs_gp1 :
    { openState with calls := [.gp1Write 0x02000000#32] }.calls = .gp1Write 0x02000000#32 :: [] ∧
      decode .gp1 [0x02000000#32] = .ok (.g1Ack, []) := ⟨rfl, rfl⟩

theorem witness_step_runs_placed :
    openState.cbuf.length = 12 ∧ openState.lock ≠ .block ∧ { openState with lock := .sink }.lock ≠ .block ∧
      decodeTableWord 32 0x80000000 = some (.vcopy ⟨0, 0, 0, 0, 1024, 512⟩) := by decide +kernel

theorem witness_power_on : Memory.wf (some vramUnlisted) vramBytes [(0, 1), (1048575, 0x80)] = true := by decide

theorem witness_step_keeps_invariant : ∃ t, { fillingState 3 with calls := [.gp0Write 0#32] }.Inv ∧
    step { fillingState 3 with calls := [.gp0Write 0#32] } = .next t :=
  ⟨_, witness_step_runs_gp0_last.2, rfl⟩

/-- Where the first header is absent a list ends at once, whatever the bound. -/
theorem listReaches_absent {m : Memory} {ptr : Nat} (h : memRead m ptr = none) : listReaches m Config.listBound ptr = false := by
  obtain ⟨n, hn⟩ : ∃ n, Config.listBound = n + 1 := ⟨Config.listBound - 1, by have := listBound_pos; omega⟩
  rw [hn]
  simp only [listReaches, listNext, h]

theorem witness_ending_list : ∀ (base ctrl : Word) (bc bs : BitVec 16) (rest : List Call),
    { openState with calls := [.dmaTransfer 0x100 0 0 0x400, .vsyncTick] }.calls = .dmaTransfer base bc bs ctrl :: rest →
      ctrlList ctrl = true → listReaches openState.mainMem Config.listBound (wordAddr base.toNat) = false :=
  fun _ _ _ _ _ _ _ => listReaches_absent rfl

/-- A state that differs from `openState` in hidden fields only. -/
def hiddenState : State :=
  { openState with
    tpc := [⟨3, true, []⟩]
    vram := { openState.vram with fmt := .f24, tags := [(0, 3)], flags := [(16, ⟨true, false, false, false⟩)] } }

theorem witness_hidden : ∃ t, sameSeen { openState with calls := [.gp0Write 0x01000000#32] }
    { hiddenState with calls := [.gp0Write 0x01000000#32] } ∧
      step { openState with calls := [.gp0Write 0x01000000#32] } = .next t := ⟨_, rfl, rfl⟩

theorem witness_bracketed : ∃ t, (writesVram (.fill ⟨⟨0, 0, 0⟩, 0, 0, 16, 1⟩) = true ∧ openState.lock = .free) ∧
    writesVram (.imgout ⟨0, 0, 1, 1⟩) = false ∧ exec (.imgout ⟨0, 0, 1, 1⟩) openState = .next t :=
  ⟨_, ⟨rfl, rfl⟩, rfl, rfl⟩

theorem witness_held_lock :
    { fillingState 3 with calls := [.gp0Write 0, .clock 1], lock := .sink }.calls = .gp0Write 0 :: [.clock 1] ∧
      callTakesLock (.gp0Write 0) { fillingState 3 with calls := [.gp0Write 0, .clock 1], lock := .sink } = true ∧
      Call.sinkRelease ∉ [Call.clock 1] ∧ Call.sinkRelease ∈ [Call.clock 1, Call.sinkRelease] := by decide

theorem witness_reserved :
    Instr.operands .rsvdFF = .none ∧ Instr.operands .g1Ack = .none ∧ openState.dstate = .idle ∧
    (∀ op ∈ [0x03, 0x1F, 0xE7, 0xFF], (0x03 ≤ op ∧ op ≤ 0x1F) ∨ 0xE7 ≤ op) ∧
    (opcodeOf 0xE7000000#32).toNat = 0xE7 ∧ (gp1OpcodeOf 0x09000000#32).toNat = 0x09 ∧
    (gp1OpcodeOf 0x0F000000#32).toNat = 0x0F ∧ (gp1OpcodeOf 0x20000000#32).toNat = 0x20 ∧
    gp1OpcodeOf 0xC2000000#32 = 0x02#6 := by decide

theorem witness_drawing_registers : ∃ t c k a, Instr.polyF3T aFlatTriTex ≠ .g1Reset ∧
    exec (.polyF3T aFlatTriTex) State.reset = .next t ∧ polygonOf (.polyF3T aFlatTriTex) = some c ∧
    c.tex = some (k, a) := ⟨_, _, _, _, by decide, rfl, rfl, rfl⟩

theorem witness_drawing_registers_plain : ∃ t c, Instr.polyF3 aFlatTri ≠ .g1Reset ∧
    exec (.polyF3 aFlatTri) State.reset = .next t ∧ (∀ o, Instr.polyF3 aFlatTri ≠ .setmode o) ∧
    polygonOf (.polyF3 aFlatTri) = some c ∧ c.tex = none := ⟨_, _, by decide, rfl, by simp, rfl, rfl⟩

theorem witness_texture_window : (TexWindow.mk 0 0 31 31).enabled = false ∧ (TexWindow.mk 0 16 0 0).enabled = true := by
  decide

theorem witness_write_cells :
    ((-1 : Int) % 1024 = 1023 % 1024 ∧ (512 : Int) % 512 = 0 % 512) ∧
      ¬ ((0 : Int) % 1024 = 1023 % 1024 ∧ (0 : Int) % 512 = 0 % 512) := by decide

theorem witness_conversion : openState.vram.fmt = .f15 ∧ hiddenState.vram.fmt = .f24 := by decide

theorem witness_mask_mode : ∃ t, (∀ o, Instr.rect1 ⟨⟨255, 0, 0⟩, ⟨3, 2⟩⟩ ≠ .fill o) ∧
    exec (.rect1 ⟨⟨255, 0, 0⟩, ⟨3, 2⟩⟩) { openState with msk := ⟨true, true⟩ } = .next t ∧
    t.vram.read 3 2 ≠ openState.vram.read 3 2 :=
  ⟨after (exec (.rect1 ⟨⟨255, 0, 0⟩, ⟨3, 2⟩⟩) { openState with msk := ⟨true, true⟩ }), by simp, rfl, by decide +kernel⟩

/-- An image-in of three cells in a row, two data words to come. -/
def imageState : State :=
  { openState with dstate := .extraData, xkind := .imageIn, img := ⟨0, 0, 3, 1, 0, 2⟩ }

theorem witness_mask_mode_data :
    (dataWord 1 { imageState with msk := ⟨true, true⟩ }).vram.read 0 0 ≠ imageState.vram.read 0 0 := by decide +kernel

/-- A render mode with nothing enabled. -/
def plainMode : RenderMode := ⟨false, false, false, noClut, 0, 0, 2, 0, ⟨0, 0, 0, 0⟩, false, false⟩

/-- VRAM whose cell (0, 0) is masked and whose cell (2, 0) is not 0. -/
def pixelVram : Vram := ⟨[(1, 0x80), (4, 5)], .f15, [], []⟩

theorem witness_untextured :
    plainMode.textured = false ∧ (255 : Nat) < 256 ∧
      ({ plainMode with chk := true }.chk = true ∧ maskBit (pixelVram.read 0 0) = true) ∧
      (¬ (plainMode.chk = true ∧ maskBit (pixelVram.read 0 0) = true) ∧ plainMode.semi = false) ∧
      { plainMode with semi := true }.semi = true ∧ (5, 7) ∈ [(0, 255), (5, 7), (10, 0)] := by decide

theorem witness_textured :
    { plainMode with textured := true }.textured = true ∧ texel plainMode pixelVram 1 0 = 0 ∧
      texel plainMode pixelVram 2 0 ≠ 0 ∧ ¬ (plainMode.chk = true ∧ maskBit (pixelVram.read 7 7) = true) ∧
      (plainMode.semi = false ∨ (texel plainMode pixelVram 2 0).getLsbD 15 = false) ∧ plainMode.raw = false ∧
      { plainMode with raw := true }.raw = true := by decide +kernel

theorem witness_textured_blend :
    { plainMode with textured := true, semi := true }.semi = true ∧ texel plainMode pixelVram 0 0 ≠ 0 ∧
      (texel plainMode pixelVram 0 0).getLsbD 15 = true ∧
      ¬ (plainMode.chk = true ∧ maskBit (pixelVram.read 7 7) = true) ∧ (10, 9) ∈ [(0, 255), (5, 7), (10, 9)] := by decide +kernel

theorem witness_texel_depths :
    { plainMode with tdepth := 0 }.tdepth = 0#2 ∧ { plainMode with tdepth := 1 }.tdepth = 1#2 ∧
      (plainMode.tdepth = 2#2 ∨ plainMode.tdepth = 3#2) := by decide

theorem witness_polygon : ∃ c, polygonOf (.polyG4TSR aGourQuadTex) = some c ∧ openState.lock = .free ∧
    ((c.box openState.ofs).inter openState.clip.rect).isEmpty = false ∧
    ((c.box openState.ofs).inter { openState with clip := ⟨1, 0, 0, 0⟩ }.clip.rect).isEmpty = true :=
  ⟨_, rfl, rfl, by decide +kernel, by decide +kernel⟩

theorem witness_rectangle : ∃ c, rectangleOf (.rect16T aRectFixTex) = some c ∧ openState.lock = .free ∧
    ((c.extent ⟨2, 0⟩).inter openState.clip.rect).isEmpty = false ∧
    ((c.extent ⟨-100, 0⟩).inter openState.clip.rect).isEmpty = true :=
  ⟨_, rfl, rfl, by decide +kernel, by decide +kernel⟩

theorem witness_flat_rectangle : ∃ c, rectangleOf (.rectV ⟨⟨255, 0, 0⟩, ⟨2, 0⟩, 5, 1⟩) = some c ∧ c.tex = none ∧
    c.semi = false ∧ openState.lock = .free ∧ openState.msk.chk = false := ⟨_, rfl, rfl, rfl, rfl, rfl⟩

theorem witness_line : ∃ c, lineOf (.lineG ⟨⟨1, 2, 3⟩, ⟨0, 0⟩, ⟨4, 5, 6⟩, ⟨1023, 511⟩⟩) = some c ∧
    opPoly (.lineG ⟨⟨1, 2, 3⟩, ⟨0, 0⟩, ⟨4, 5, 6⟩, ⟨1023, 511⟩⟩) = false ∧ openState.lock = .free ∧
    lineAccepted openState.clip (vertex openState.ofs c.v0) (vertex openState.ofs c.v1) = true ∧
    lineAccepted ⟨1, 0, 1023, 511⟩ (vertex openState.ofs c.v0) (vertex openState.ofs c.v1) = false :=
  ⟨_, rfl, by decide, rfl, by decide, by decide⟩

theorem witness_polyline : ∃ c, lineOf (.plineGS ⟨⟨1, 2, 3⟩, ⟨0, 0⟩, ⟨4, 5, 6⟩, ⟨7, 2⟩⟩) = some c ∧
    opPoly (.plineGS ⟨⟨1, 2, 3⟩, ⟨0, 0⟩, ⟨4, 5, 6⟩, ⟨7, 2⟩⟩) = true ∧ openState.lock = .free := ⟨_, rfl, by decide, rfl⟩

/-- A polyline waiting for a word. -/
def polyState (k : XKind) (phase : BitVec 1) : State :=
  { openState with dstate := .extraData, xkind := k, pline := ⟨(0, 0), ⟨1, 2, 3⟩, ⟨4, 5, 6⟩, phase⟩ }

theorem witness_polyline_data :
    ((polyState .polyFlat 1).dstate = .extraData ∧ (polyState .polyFlat 1).xkind ≠ .imageIn ∧
      (polyState .polyFlat 1).lock = .free) ∧
    ((polyState .polyFlat 1).xkind = .polyFlat ∧ isTerminator 0x5FFF5FFF#32 = true ∧ isTerminator 0x00020003#32 = false) ∧
    ((polyState .polyGouraud 0).xkind = .polyGouraud ∧ (polyState .polyGouraud 0).pline.pphase = 0#1 ∧
      isTerminator 0x50004FFF#32 = false) ∧
    (polyState .polyGouraud 1).pline.pphase = 1#1 := by decide

theorem witness_line_walk : 0 + 1 < (lineCells (0, 0) (1, 0)).length ∧ (4 : Nat) = max (4 : Int).natAbs (2 : Int).natAbs ∧
    ((linePixels (0, 0) (4, 2) ⟨0, 0, 0⟩ ⟨255, 0, 0⟩)[4]?).isSome = true := by decide +kernel

theorem witness_degenerate :
    (((3 : Int) = 3 ∧ (3 : Int) = 3) ∨ ((4 : Int) - 0) * (3 - 3) = (8 - 0) * (3 - 3)) ∧
      ((2 : Int) - 0) * (4 - 0) = (4 - 0) * (2 - 0) := by decide

/-- The three vertices of R238. -/
def cornerTri : Tri := ⟨⟨0, 0, ⟨0, 0, 0, 0, 0⟩⟩, ⟨4, 0, ⟨9, 0, 8, 0, 0⟩⟩, ⟨0, 4, ⟨0, 9, 0, 8, 0⟩⟩⟩

theorem witness_triangle :
    cornerTri = Tri.sort cornerTri.a cornerTri.b cornerTri.c ∧
    ¬ (cornerTri.a.y = cornerTri.c.y ∨
      (cornerTri.b.x - cornerTri.a.x) * (cornerTri.c.y - cornerTri.a.y) =
        (cornerTri.c.x - cornerTri.a.x) * (cornerTri.b.y - cornerTri.a.y) ∨
      edgeX ⟨cornerTri.a, cornerTri.c⟩ cornerTri.b.y = cornerTri.b.x * 65536) ∧
    (trianglePixels ⟨0, 0, 9, 9⟩ ⟨true, ⟨0, 0, 0⟩⟩ cornerTri.a cornerTri.b cornerTri.c).length = 10 := by decide +kernel

theorem witness_triangle_rejected : ({ cornerTri with c := cornerTri.a } : Tri).a.y = ({ cornerTri with c := cornerTri.a } : Tri).c.y := rfl

theorem witness_clipping : (⟨0, 0, 1023, 511⟩ : Rect).x0 ≤ (⟨1, 1, 3, 2⟩ : Rect).x0 ∧
    (⟨0, 0, 1023, 511⟩ : Rect).y0 ≤ (⟨1, 1, 3, 2⟩ : Rect).y0 ∧
    (⟨1, 1, 3, 2⟩ : Rect).x1 ≤ (⟨0, 0, 1023, 511⟩ : Rect).x1 ∧
    (⟨1, 1, 3, 2⟩ : Rect).y1 ≤ (⟨0, 0, 1023, 511⟩ : Rect).y1 := by decide

theorem witness_polygon_pixels : ∃ c, polygonOf (.polyF3 ⟨⟨255, 0, 0⟩, ⟨0, 0⟩, ⟨2, 0⟩, ⟨0, 2⟩⟩) = some c ∧
    c.w3 = none ∧ (c.pixels ⟨0, 0⟩ ⟨0, 0, 1023, 511⟩).length = 3 := ⟨_, rfl, rfl, by decide +kernel⟩

theorem witness_quad_command : ∃ c w3, polygonOf (.polyG4TSR aGourQuadTex) = some c ∧ c.w3 = some w3 := ⟨_, _, rfl, rfl⟩

theorem witness_rectangular_quad :
    quadShape ⟨0, 0, ⟨0, 0, 0, 0, 0⟩⟩ ⟨4, 0, ⟨4, 0, 0, 0, 0⟩⟩ ⟨0, 2, ⟨0, 2, 0, 0, 0⟩⟩ ⟨4, 2, ⟨4, 2, 0, 0, 0⟩⟩ = true ∧
      quadLinear true false ⟨0, 0, 0, 0, 0⟩ ⟨4, 0, 0, 0, 0⟩ ⟨0, 2, 0, 0, 0⟩ ⟨4, 2, 0, 0, 0⟩ = true := by decide

theorem witness_other_quad :
    quadShape ⟨0, 0, ⟨0, 0, 0, 0, 0⟩⟩ ⟨4, 1, ⟨0, 0, 0, 0, 0⟩⟩ ⟨0, 2, ⟨0, 0, 0, 0, 0⟩⟩ ⟨4, 2, ⟨0, 0, 0, 0, 0⟩⟩ = false := by decide

theorem witness_fill :
    opcodeOf 0x02FFFFFF#32 = 0x02#8 ∧ Fill.wf ⟨⟨0, 0, 0⟩, 1008, 511, 32, 2⟩ = true ∧
      Fill.wf ⟨⟨0, 0, 0⟩, 0, 0, 0, 5⟩ = true ∧ Fill.wf ⟨⟨0, 0, 0⟩, 0, 0, 1024, 0⟩ = true ∧ openState.lock = .free := by decide

theorem witness_fill_cell : inBlock 1008 511 32 2 (cellIndex 15 0) ∧ (32 : Nat) ≠ 0 ∧ (2 : BitVec 9) ≠ 0#9 :=
  ⟨⟨31, 1, by decide, by decide, by decide⟩, by decide, by decide⟩

theorem witness_copy :
    (0x80 ≤ (opcodeOf 0x80000000#32).toNat ∧ (opcodeOf 0x9F000000#32).toNat ≤ 0x9F) ∧
    (Instr.vcopyX9F ⟨0, 0, 1023, 511, 2, 2⟩).operands = .copy ⟨0, 0, 1023, 511, 2, 2⟩ ∧
    (Instr.vcopyX9F ⟨0, 0, 1023, 511, 2, 2⟩).wf = true ∧ (1 : Nat) < 2 ∧ openState.lock = .free := by decide

theorem witness_image_in :
    (Instr.imginXBF ⟨0, 0, 6, 1⟩).operands = .xfer ⟨0, 0, 6, 1⟩ ∧ opClass (Instr.imginXBF ⟨0, 0, 6, 1⟩).opcode = 5 ∧
      openState.lock = .free ∧ openState.vram.fmt = .f15 ∧ hiddenState.vram.fmt = .f24 := by decide

theorem imageState_inv : imageState.Inv := by
  refine ⟨?_, ?_, ?_, ?_, ?_, ?_, ?_⟩ <;>
    simp only [State.sequencingWf, State.imageWf, State.readWf, State.vramWf, State.hiddenWf, State.memWf, State.quiet] <;>
    decide

theorem witness_image_words : imageState.Inv ∧ imageState.dstate = .extraData ∧ imageState.xkind = .imageIn ∧
    imageState.lock = .free ∧ [1#32].length < imageState.img.xrem ∧ [1#32, 2#32].length = imageState.img.xrem ∧
    { imageState with vram := hiddenState.vram }.vram.fmt = .f24 ∧ imageState.img.xpos ≤ 0 ∧ 2 < imageState.img.xw * imageState.img.xh :=
  ⟨imageState_inv, by decide⟩

theorem witness_image_out :
    (Instr.imgoutXDF ⟨0, 0, 3, 1⟩).operands = .xfer ⟨0, 0, 3, 1⟩ ∧ opClass (Instr.imgoutXDF ⟨0, 0, 3, 1⟩).opcode = 6 := by
  decide

theorem witness_read_out :
    (1 ≤ (ReadOut.mk true 0 0 3 1 0 0).rw ∧ 1 ≤ (ReadOut.mk true 0 0 3 1 0 0).rh) ∧
      (ReadOut.mk true 0 0 3 1 0 0).ractive = true ∧ (ReadOut.mk true 0 0 3 1 0 0).rpos = 0 ∧
      ((1 : Nat) < 3 ∧ 1 < (3 * 1 + 1) / 2) ∧ ((2 : Nat) < 3 ∧ (3 * 1 + 1) / 2 ≤ 2) := by decide

theorem witness_report : (0 : Int) ≤ 0 ∧ (0 : Int) ≤ 1023 ∧ (1023 : Int) ≤ 1023 ∧ (511 : Int) ≤ 511 ∧
    (⟨3, true, []⟩ : TpcEntry) ∈ hiddenState.tpc := by decide

/-- A page and a palette flag cached, and a call to come. -/
def cachedState : State :=
  { openState with
    tpc := [⟨3, true, []⟩], vram := { openState.vram with flags := [(16, ⟨true, false, false, false⟩)] },
    calls := [.gp0Write 0x01000000#32] }

theorem cachedState_inv : cachedState.Inv := by
  refine ⟨?_, ?_, ?_, ?_, ?_, ?_, ?_⟩ <;>
    simp only [State.sequencingWf, State.imageWf, State.readWf, State.vramWf, State.hiddenWf, State.memWf, State.quiet] <;>
    decide

theorem witness_pages_coherent : ∃ t, cachedState.Inv ∧ cachedState.pagesCoherent ∧ step cachedState = .next t := by
  refine ⟨_, cachedState_inv, ?_, rfl⟩
  intro e he
  obtain rfl : e = ⟨3, true, []⟩ := by simpa [cachedState] using he
  exact .inr fun u v => rfl

theorem cachedState_flags (k : ClutSel) : (cachedState.vram.flagsAt (clutX k) (clutY k)).s16 = false ∧
    (cachedState.vram.flagsAt (clutX k) (clutY k)).s256v = false := by
  simp only [Vram.flagsAt, cachedState, openState, State.reset, State.powerOn, Sparse.get?]
  split <;> simp [noFlags]

theorem cachedState_palette (k : ClutSel) : paletteSolid cachedState.vram k 16 = false := by
  simp [paletteSolid, clutEntry, Vram.read, cellOf, vramByte, vramUnlisted, cachedState, openState,
    State.reset, State.powerOn, List.range_succ]

theorem witness_solid_coherent : ∃ t, cachedState.Inv ∧ cachedState.solidCoherent ∧ step cachedState = .next t := by
  refine ⟨_, cachedState_inv, fun k => ⟨fun _ => .inr ?_, fun h => ?_⟩, rfl⟩
  · rw [(cachedState_flags k).1, cachedState_palette k]
  · rw [(cachedState_flags k).2] at h
    exact absurd h (by decide)

theorem witness_abort : imageState.midImage ∧ ¬ openState.midImage := by
  simp only [State.midImage]
  decide

theorem witness_display_words :
    gp1OpcodeOf 0x03000001#32 = 0x03#6 ∧ gp1OpcodeOf 0x04000000#32 = 0x04#6 ∧ gp1OpcodeOf 0x06000000#32 = 0x06#6 ∧
      gp1OpcodeOf 0x07000000#32 = 0x07#6 ∧ gp1OpcodeOf 0xC8000000#32 = 0x08#6 := by decide

theorem witness_info :
    (0x10 ≤ (gp1OpcodeOf 0x10000000#32).toNat ∧ (gp1OpcodeOf 0x1F000000#32).toNat ≤ 0x1F) ∧
      openState.rd.ractive = false ∧ Instr.operands (.g1InfoX1F ⟨7⟩) = .info ⟨7⟩ ∧ Instr.operands (.g1Info ⟨0⟩) = .info ⟨0⟩ := by
  decide

theorem witness_status_call : { openState with calls := [.gpuStat] }.calls = .gpuStat :: [] := rfl

theorem witness_decision_refreshes :
    ({ State.reset.cur with orgx := State.reset.pend.orgx, orgy := State.reset.pend.orgy } ≠
        { State.reset.pend with dispoff := false }) ∧
      Config.tDirtyNs ≤ Config.tDirtyNs - State.reset.tDirty ∧ Config.tLiveNs ≤ Config.tLiveNs - State.reset.tAny :=
  ⟨by decide, Nat.le_refl _, Nat.le_refl _⟩

theorem witness_decision_waits (d : Bool) :
    ¬ ({ State.reset.cur with orgx := State.reset.pend.orgx, orgy := State.reset.pend.orgy } ≠ State.reset.pend ∨
      (d = true ∧ Config.tDirtyNs ≤ State.reset.now - State.reset.tDirty) ∨
      Config.tLiveNs ≤ State.reset.now - State.reset.tAny) := by
  simp [State.reset, State.powerOn, Config.tDirtyNs, Config.tLiveNs]

theorem witness_tick :
    { State.reset with now := Config.tLiveNs, calls := [.vsyncTick] }.calls = .vsyncTick :: [] ∧
      Config.tLiveNs ≤ { State.reset with now := Config.tLiveNs, calls := [.vsyncTick] }.now - State.reset.tAny :=
  ⟨rfl, Nat.le_refl _⟩

/-- A NOP word in main memory. -/
def wordState (w : Word) : State :=
  { openState with mainMem := [(256, byteOfWord w 0), (257, byteOfWord w 1), (258, byteOfWord w 2), (259, byteOfWord w 3)] }

theorem witness_block_transfer :
    ctrlList 1 = false ∧ flagBit 1 0 = true ∧ [0x01000000#32].length = (1 : BitVec 16).toNat * (1 : BitVec 16).toNat ∧
      ∀ k, k < [0x01000000#32].length →
        memRead (wordState 0x01000000).mainMem (wordAddr (wordAddr (256 : Word).toNat + 4 * k)) = [0x01000000#32][k]? := by
  decide +kernel

theorem witness_block_out :
    openState.lock = .free ∧ ctrlList 0 = false ∧ flagBit 0 0 = false ∧ 1 = (1 : BitVec 16).toNat * (1 : BitVec 16).toNat ∧
      (∀ k, k < 1 → (memRead (wordState 7).mainMem (wordAddr (wordAddr (256 : Word).toNat + 4 * k))).isSome = true) ∧
      1 ≤ 0 + 4194304 ∧ ∀ k, k < 1 → wordAddr (wordAddr (256 : Word).toNat + 4 * k) ≠ 255 / 4 * 4 := by decide +kernel

theorem witness_absent :
    openState.lock = .free ∧ memRead openState.mainMem (wordAddr (wordAddr (3 : Word).toNat)) = none ∧
      (ctrlList 0x400 = true ∨ flagBit 0x400 0 = true ∨ (0 : BitVec 16).toNat * (0 : BitVec 16).toNat = 0) ∧
      (ctrlList 0 = false ∧ flagBit 0 0 = false ∧ (1 : BitVec 16).toNat * (1 : BitVec 16).toNat ≠ 0) := by decide

theorem witness_list_node :
    memRead (wordState 0x00FFFFFF).mainMem 256 = some 0x00FFFFFF#32 ∧
      (field 0x00FFFFFF#32 24 8).toNat = ([] : List Word).length := by decide +kernel

theorem witness_cyclic_list :
    (wordState 0x00000102).lock = .free ∧ ctrlList 0x400 = true ∧
      memRead (wordState 0x00000102).mainMem (wordAddr (256 : Word).toNat) = some 0x00000102#32 ∧
      nodeCount 0x00000102#32 = 0 ∧ isLastNode 0x00000102#32 = false ∧
      wordAddr (field 0x00000102#32 0 24).toNat = wordAddr (256 : Word).toNat := by decide +kernel

/-- A node that links to itself reaches any number of nodes. -/
theorem witness_endless_list (n : Nat) : listReaches (wordState 0x00000102).mainMem n 256 = true := by
  induction n with
  | zero => rfl
  | succ n ih =>
    have h : listNext (wordState 0x00000102).mainMem 256 = some 256 := by decide +kernel
    simp only [listReaches, h, ih]

theorem witness_list_start : wordAddr 256 = 256 := by decide

end Sys2Proof.Tests
end

section
/-! What a command can do to VRAM, said once: writes inside a rectangle, a solid flag resolved, and the report of the
rectangle. Everything an invariant asks of VRAM is proved of these changes and then holds of every command. -/

namespace Sys2Proof.Machine

/-! ## VRAM in canonical form (R37, R39, R71; log entries 1 and 11) -/

/-- The native view, the tags and the flags are in canonical form: what `State.vramWf` and `State.hiddenWf` say. -/
structure Vram.Canonical (v : Vram) : Prop where
  native : Memory.wf (some vramUnlisted) vramBytes v.native = true
  tags : Sparse.Rising v.tags ∧ ∀ e ∈ v.tags, e.2 ≠ defaultTag e.1
  flags : Sparse.Rising v.flags ∧ ∀ e ∈ v.flags, e.2 ≠ noFlags
  tagless : v.fmt = .f15 → v.tags = []

theorem canonical_iff (s : State) : s.vram.Canonical ↔ s.vramWf ∧ s.hiddenWf :=
  ⟨fun ⟨hn, ht, hf, hz⟩ => ⟨hn, ht, hf, hz⟩, fun ⟨hn, ht, hf, hz⟩ => ⟨hn, ht, hf, hz⟩⟩

section
variable {α : Type} {l : List (Nat × α)} {P : Nat × α → Prop}

theorem Sparse.listed_set (h : Sparse.Rising l ∧ ∀ e ∈ l, P e) {a : Nat} {x : α} (hx : P (a, x)) :
    Sparse.Rising (Sparse.set a x l) ∧ ∀ e ∈ Sparse.set a x l, P e := by
  refine ⟨Sparse.rising_set h.1 a x, fun e he => ?_⟩
  rcases Sparse.mem_set he with rfl | he
  · exact hx
  · exact h.2 e he

theorem Sparse.listed_erase (h : Sparse.Rising l ∧ ∀ e ∈ l, P e) (a : Nat) :
    Sparse.Rising (Sparse.erase a l) ∧ ∀ e ∈ Sparse.erase a l, P e :=
  ⟨Sparse.rising_erase h.1 a, fun e he => h.2 e (Sparse.mem_erase he)⟩

/-- Nothing is listed under a number below every one listed. -/
theorem Sparse.get?_eq_none {a : Nat} (h : ∀ c ∈ l, a < c.1) : Sparse.get? a l = none := by
  induction l with
  | nil => rfl
  | cons c t ih =>
    have hc : c.1 ≠ a := (h c (by simp)).ne'
    simp [Sparse.get?, hc, ih fun d hd => h d (by simp [hd])]

end

theorem Vram.Canonical.write {v : Vram} (h : v.Canonical) (x y : Int) (p : BitVec 16) : (v.write x y p).Canonical :=
  ⟨setCell_wf h.native x y p, h.tags, Sparse.listed_erase h.flags _, h.tagless⟩

theorem Vram.Canonical.setTag {v : Vram} (h : v.Canonical) (x y : Int) (t : BitVec 2) : (v.setTag x y t).Canonical := by
  unfold Vram.setTag
  split
  · exact h
  · next hf =>
    have h15 : v.fmt ≠ .f15 := by simp [hf]
    split
    · exact ⟨h.native, Sparse.listed_erase h.tags _, h.flags, fun e => absurd e h15⟩
    · next ht => exact ⟨h.native, Sparse.listed_set h.tags ht, h.flags, fun e => absurd e h15⟩

theorem Vram.Canonical.setFlags {v : Vram} (h : v.Canonical) (x y : Int) (f : CellFlags) :
    (v.setFlags x y f).Canonical := by
  unfold Vram.setFlags
  split
  · exact ⟨h.native, h.tags, Sparse.listed_erase h.flags _, h.tagless⟩
  · next hf => exact ⟨h.native, h.tags, Sparse.listed_set h.flags hf, h.tagless⟩

theorem Vram.Canonical.convertTo {v : Vram} (h : v.Canonical) (f : VFmt) : (v.convertTo f).Canonical := by
  unfold Vram.convertTo
  split
  · exact h
  · exact ⟨h.native, ⟨Sparse.rising_nil, by simp⟩, ⟨Sparse.rising_nil, by simp⟩, fun _ => rfl⟩

theorem Vram.Canonical.resolveSolid {v : Vram} (h : v.Canonical) (k : ClutSel) (eight : Bool) :
    (resolveSolid k eight v).Canonical := by
  unfold Machine.resolveSolid
  split
  · exact h
  · exact h.setFlags ..

/-! ## Invalidation of the flags (R338) -/

/-- `Invalidate(r)` on VRAM: the flags. -/
def Vram.invalidate (r : Rect) (v : Vram) : Vram := { v with flags := invalidateFlags r v.flags }

theorem reportIfAny_vram_eq (r : Rect) (s : State) :
    (reportIfAny r s).vram = if r.isEmpty then s.vram else s.vram.invalidate r := by
  unfold reportIfAny; split <;> rfl

theorem invalidFlags_noFlags (r : Rect) (i : Nat) : invalidFlags r i noFlags = noFlags := by
  simp [invalidFlags, noFlags]

theorem mem_invalidateFlags {r : Rect} {l : List (Nat × CellFlags)} {e : Nat × CellFlags}
    (h : e ∈ invalidateFlags r l) : e.2 ≠ noFlags ∧ ∃ f, (e.1, f) ∈ l := by
  induction l with
  | nil => cases h
  | cons c t ih =>
    obtain ⟨i, f⟩ := c
    simp only [invalidateFlags] at h
    split at h
    · obtain ⟨hn, g, hg⟩ := ih h
      exact ⟨hn, g, by simp [hg]⟩
    · next hf =>
      rcases List.mem_cons.1 h with rfl | h
      · exact ⟨hf, f, by simp⟩
      · obtain ⟨hn, g, hg⟩ := ih h
        exact ⟨hn, g, by simp [hg]⟩

theorem rising_invalidateFlags (r : Rect) {l : List (Nat × CellFlags)} (h : Sparse.Rising l) :
    Sparse.Rising (invalidateFlags r l) := by
  induction l with
  | nil => exact Sparse.rising_nil
  | cons c t ih =>
    obtain ⟨i, f⟩ := c
    obtain ⟨hi, ht⟩ := Sparse.rising_cons.1 h
    simp only [invalidateFlags]
    split
    · exact ih ht
    · refine Sparse.rising_cons.2 ⟨fun e he => ?_, ih ht⟩
      obtain ⟨-, g, hg⟩ := mem_invalidateFlags he
      exact hi (e.1, g) hg

theorem getFlags_invalidateFlags (r : Rect) (a : Nat) {l : List (Nat × CellFlags)} (h : Sparse.Rising l) :
    (Sparse.get? a (invalidateFlags r l)).getD noFlags = invalidFlags r a ((Sparse.get? a l).getD noFlags) := by
  induction l with
  | nil => simp [invalidateFlags, invalidFlags_noFlags]
  | cons c t ih =>
    obtain ⟨i, f⟩ := c
    obtain ⟨hi, ht⟩ := Sparse.rising_cons.1 h
    have hrest := ih ht
    by_cases hia : i = a
    · subst hia
      have hnone : Sparse.get? i t = none := Sparse.get?_eq_none hi
      rw [hnone, Option.getD_none, invalidFlags_noFlags] at hrest
      simp only [invalidateFlags, Sparse.get?, if_true, Option.getD_some]
      split
      · next hf => rw [hrest, hf]
      · simp [Sparse.get?]
    · simp only [invalidateFlags, Sparse.get?, if_neg hia]
      split
      · exact hrest
      · simpa only [Sparse.get?, if_neg hia] using hrest

/-- The flags of every cell after `Invalidate(r)` (R338). -/
theorem Vram.flagsAt_invalidate {v : Vram} (h : v.Canonical) (r : Rect) (x y : Int) :
    (v.invalidate r).flagsAt x y = invalidFlags r (cellIndex x y) (v.flagsAt x y) :=
  getFlags_invalidateFlags r _ h.flags.1

theorem Vram.Canonical.invalidate {v : Vram} (h : v.Canonical) (r : Rect) : (v.invalidate r).Canonical :=
  ⟨h.native, h.tags, ⟨rising_invalidateFlags r h.flags.1, fun _ he => (mem_invalidateFlags he).1⟩, h.tagless⟩

/-! ## Writes inside a rectangle -/

/-- VRAM changed by cell writes inside a rectangle, and by tags. -/
inductive Vram.WritesIn (r : Rect) (v : Vram) : Vram → Prop where
  | refl : WritesIn r v v
  | write {w : Vram} (x y : Int) (p : BitVec 16) (hw : WritesIn r v w) (hr : r.has (x % 1024) (y % 512) = true) :
      WritesIn r v (w.write x y p)
  | tag {w : Vram} (x y : Int) (t : BitVec 2) (hw : WritesIn r v w) : WritesIn r v (w.setTag x y t)

theorem Vram.WritesIn.trans {r : Rect} {u v w : Vram} (h : v.WritesIn r w) (hu : u.WritesIn r v) : u.WritesIn r w := by
  induction h with
  | refl => exact hu
  | write x y p _ hr ih => exact ih.write x y p hr
  | tag x y t _ ih => exact ih.tag x y t

theorem Vram.WritesIn.canonical {r : Rect} {v w : Vram} (h : v.WritesIn r w) (hv : v.Canonical) : w.Canonical := by
  induction h with
  | refl => exact hv
  | write x y p _ _ ih => exact ih.write x y p
  | tag x y t _ ih => exact ih.setTag x y t

theorem Vram.WritesIn.maskedWrite {r : Rect} {v w : Vram} (h : v.WritesIn r w) (msk : MaskMode) {x y : Int}
    (p : BitVec 16) (hr : r.has (x % 1024) (y % 512) = true) : v.WritesIn r (w.maskedWrite msk x y p) := by
  rcases w.maskedWrite_cases msk x y p with ⟨-, -, e⟩ | ⟨-, e⟩ <;> rw [e]
  · exact h
  · exact h.write x y _ hr

/-- A draw whose pixels' cells are in a rectangle writes there only (R300). -/
theorem plotAll_writesIn {r : Rect} (m : RenderMode) (v : Vram) {ps : List Pixel}
    (h : ∀ p ∈ ps, r.has (p.x % 1024) (p.y % 512) = true) : v.WritesIn r (plotAll m v ps) := by
  refine plotAll_induct (P := v.WritesIn r) m v ps .refl fun w hw p hp => ?_
  rcases plot_cases m w p with e | ⟨-, c, sm, -, e⟩ <;> rw [e]
  · exact hw
  · exact hw.write _ _ _ (h p hp)

/-! ## The rectangles of a report -/

/-- No column and no row beyond VRAM's (R37). -/
def Rect.insideVram (r : Rect) : Prop := (0 ≤ r.x0 ∧ r.x1 ≤ 1023) ∧ 0 ≤ r.y0 ∧ r.y1 ≤ 511

theorem Rect.has_iff {r : Rect} {x y : Int} : r.has x y = true ↔ (r.x0 ≤ x ∧ x ≤ r.x1) ∧ r.y0 ≤ y ∧ y ≤ r.y1 := by
  simp [Rect.has]

theorem Rect.has_inter {a b : Rect} {x y : Int} :
    (a.inter b).has x y = true ↔ a.has x y = true ∧ b.has x y = true := by
  simp only [Rect.has_iff, Rect.inter]; omega

theorem Rect.has_of_isEmpty {r : Rect} (h : r.isEmpty = true) (x y : Int) : r.has x y = false := by
  have hr : r.x1 < r.x0 ∨ r.y1 < r.y0 := by simpa [Rect.isEmpty] using h
  rw [← Bool.not_eq_true, Rect.has_iff]; omega

/-- Inside VRAM a cell's coordinates are its column and row (R77). -/
theorem Rect.has_mod {r : Rect} (hi : r.insideVram) {x y : Int} (h : r.has x y = true) :
    r.has (x % 1024) (y % 512) = true := by
  obtain ⟨⟨hx0, hx1⟩, hy0, hy1⟩ := hi
  have hc := Rect.has_iff.1 h
  rwa [Int.emod_eq_of_lt (by omega) (by omega), Int.emod_eq_of_lt (by omega) (by omega)]

theorem clip_insideVram (c : ClipRect) : c.rect.insideVram := by
  have h1 := c.x1.isLt
  have h2 := c.x2.isLt
  have h3 := c.y1.isLt
  have h4 := c.y2.isLt
  simp only [Rect.insideVram, ClipRect.rect]; omega

theorem Rect.inter_insideVram (a : Rect) {b : Rect} (h : b.insideVram) : (a.inter b).insideVram := by
  simp only [Rect.insideVram, Rect.inter] at h ⊢; omega

theorem targetRect_insideVram (x y w h : Nat) : (targetRect x y w h).insideVram := by
  simp only [Rect.insideVram, targetRect]; split <;> split <;> omega

/-- The target rectangle holds every cell of its block, wrapped or not (R191). -/
theorem targetRect_has {x y w h i j : Nat} (hi : i < w) (hj : j < h) :
    (targetRect x y w h).has (((x + i : Nat) : Int) % 1024) (((y + j : Nat) : Int) % 512) = true := by
  rw [Rect.has_iff]
  simp only [targetRect]
  constructor <;> split <;> omega

/-! ## What a command does to VRAM -/

/-- VRAM changed as commands change it: solid flags resolved at the start of a draw (R338), and writes inside a
rectangle of VRAM that is then reported (R145). -/
inductive Vram.Redraws (v : Vram) : Vram → Prop where
  | refl : Redraws v v
  | resolve {w : Vram} (k : ClutSel) (eight : Bool) (h : Redraws v w) : Redraws v (resolveSolid k eight w)
  | reported {w u : Vram} (r : Rect) (hr : r.insideVram) (h : Redraws v w) (hw : w.WritesIn r u) :
      Redraws v (u.invalidate r)

theorem Vram.Redraws.canonical {v w : Vram} (h : v.Redraws w) (hv : v.Canonical) : w.Canonical := by
  induction h with
  | refl => exact hv
  | resolve k e _ ih => exact ih.resolveSolid k e
  | reported r _ _ hw ih => exact (hw.canonical ih).invalidate r

/-- Writes inside an empty rectangle are none, so its report may be left out (R242, R261). -/
theorem plotAll_of_isEmpty {r : Rect} (he : r.isEmpty = true) (m : RenderMode) (v : Vram) {ps : List Pixel}
    (h : ∀ p ∈ ps, r.has p.x p.y = true) : plotAll m v ps = v := by
  cases ps with
  | nil => rfl
  | cons p t => simpa [Rect.has_of_isEmpty he] using h p (by simp)

theorem beginTexture_redraws {v : Vram} (k : ClutSel) {s : State} (h : v.Redraws s.vram) :
    v.Redraws (beginTexture k s).vram := by
  unfold beginTexture
  split
  · simpa using h.resolve k false
  · simpa using h.resolve k true
  · exact h

/-- The draw and the report of a primitive whose pixels are inside the reported rectangle (R221, R242, R261). -/
theorem drawPrimitive_redraws {v : Vram} {s : State} (h : v.Redraws s.vram) (textured raw semi : Bool) (k : ClutSel)
    {ps : List Pixel} {r : Rect} (hr : r.insideVram) (hp : ∀ p ∈ ps, r.has p.x p.y = true) :
    v.Redraws (reportIfAny r (drawPrimitive textured raw semi k ps s)).vram := by
  have hb : v.Redraws (if textured then beginTexture k s else s).vram := by
    split
    · exact beginTexture_redraws k h
    · exact h
  rw [reportIfAny_vram_eq]
  simp only [drawPrimitive, drawPixels]
  split
  · next he => rwa [plotAll_of_isEmpty he _ _ hp]
  · exact hb.reported r hr (plotAll_writesIn _ _ fun p hq => Rect.has_mod hr (hp p hq))

theorem fill_redraws (o : Fill) (s : State) : s.vram.Redraws (fill o s).vram := by
  unfold fill
  split
  · exact .refl
  · refine .reported _ (targetRect_insideVram ..) .refl ?_
    exact fillBlock_induct (P := s.vram.WritesIn _) _ _ _ _ _ _ .refl
      fun u hu i j hi hj => hu.write _ _ _ (targetRect_has hi hj)

theorem copyBlock_writesIn (msk : MaskMode) (o : Copy) (v : Vram) :
    v.WritesIn (targetRect o.dx.toNat o.dy.toNat o.w o.h) (copyBlock msk o v) := by
  unfold copyBlock
  refine List.foldlRecOn _ _ .refl fun u hu ij hij => ?_
  obtain ⟨hi, hj⟩ := mem_blockOffsets.1 hij
  exact hu.maskedWrite msk _ (targetRect_has hi hj)

theorem vcopy_redraws (o : Copy) (s : State) : s.vram.Redraws (vcopy o s).vram :=
  .reported _ (targetRect_insideVram ..) .refl (copyBlock_writesIn ..)

end Sys2Proof.Machine
end

section
/-! The pixels of a primitive are inside the rectangle it reports (R226, R242, R261, R286). -/

namespace Sys2Proof.Machine

/-! ## Triangles and quads -/

/-- `d` of `h` rows of a truncated step stay between nothing and the whole way (R231). -/
theorem tdiv_mul_between {n h d : Int} (h0 : 0 < h) (hd0 : 0 ≤ d) (hd : d ≤ h) :
    min 0 n ≤ Int.tdiv n h * d ∧ Int.tdiv n h * d ≤ max 0 n := by
  have nonneg : ∀ m : Int, 0 ≤ m → 0 ≤ Int.tdiv m h * d ∧ Int.tdiv m h * d ≤ m := fun m hm => by
    have hq : 0 ≤ Int.tdiv m h := Int.tdiv_nonneg hm h0.le
    refine ⟨mul_nonneg hq hd0, ?_⟩
    calc Int.tdiv m h * d ≤ Int.tdiv m h * h := mul_le_mul_of_nonneg_left hd hq
      _ ≤ m := by rw [Int.tdiv_eq_ediv_of_nonneg hm]; exact Int.ediv_mul_le m h0.ne'
  rcases le_total 0 n with hn | hn
  · have := nonneg n hn; omega
  · have := nonneg (-n) (by omega)
    rw [Int.neg_tdiv, neg_mul] at this; omega

/-- A row an edge spans: from its top to its bottom, which are apart. -/
def Edge.Spans (e : Edge) (y : Int) : Prop := 0 < e.height ∧ e.top.y ≤ y ∧ y ≤ e.bottom.y

/-- On a row it spans an edge is between its ends' columns (R231). -/
theorem Edge.x_between {e : Edge} {y lo hi : Int} (hs : e.Spans y) (htop : lo ≤ e.top.x ∧ e.top.x ≤ hi)
    (hbot : lo ≤ e.bottom.x ∧ e.bottom.x ≤ hi) : shl16 lo ≤ e.x y ∧ e.x y ≤ shl16 hi := by
  obtain ⟨hpos, hy0, hy1⟩ := hs
  have := tdiv_mul_between (n := shl16 (e.bottom.x - e.top.x)) (d := y - e.top.y) hpos (by omega)
    (by unfold Edge.height; omega)
  simp only [Edge.x, Edge.dx, rowStep, divT, shl16] at *
  omega

theorem ceil16_between {z lo hi : Int} (h : shl16 lo ≤ z ∧ z ≤ shl16 hi) : lo ≤ ceil16 z ∧ ceil16 z ≤ hi := by
  simp only [shl16, ceil16, shr16] at *; omega

/-- What holds of three vertices holds of them sorted. -/
theorem Tri.sort_forall {P : Vert → Prop} {p0 p1 p2 : Vert} (h0 : P p0) (h1 : P p1) (h2 : P p2) :
    P (Tri.sort p0 p1 p2).a ∧ P (Tri.sort p0 p1 p2).b ∧ P (Tri.sort p0 p1 p2).c := by
  unfold Tri.sort Tri.insert
  repeat' split
  all_goals exact ⟨by assumption, by assumption, by assumption⟩

section
variable {t : Tri} {y lo hi : Int}

theorem Tri.long_between (hy : t.a.y ≤ y ∧ y < t.c.y) (ha : lo ≤ t.a.x ∧ t.a.x ≤ hi)
    (hc : lo ≤ t.c.x ∧ t.c.x ≤ hi) : shl16 lo ≤ t.long.x y ∧ t.long.x y ≤ shl16 hi := by
  refine Edge.x_between ?_ ha hc
  simp only [Edge.Spans, Edge.height, Tri.long]; omega

theorem Tri.short_between (hy : t.a.y ≤ y ∧ y < t.c.y) (ha : lo ≤ t.a.x ∧ t.a.x ≤ hi)
    (hb : lo ≤ t.b.x ∧ t.b.x ≤ hi) (hc : lo ≤ t.c.x ∧ t.c.x ≤ hi) :
    shl16 lo ≤ (t.short y).x y ∧ (t.short y).x y ≤ shl16 hi := by
  unfold Tri.short
  split
  · refine Edge.x_between ?_ ha hb
    simp only [Edge.Spans, Edge.height]; omega
  · refine Edge.x_between ?_ hb hc
    simp only [Edge.Spans, Edge.height]; omega

/-- Both edges of a row are between the outermost vertices' columns (R235). -/
theorem Tri.left_right_between (hy : t.a.y ≤ y ∧ y < t.c.y) (ha : lo ≤ t.a.x ∧ t.a.x ≤ hi)
    (hb : lo ≤ t.b.x ∧ t.b.x ≤ hi) (hc : lo ≤ t.c.x ∧ t.c.x ≤ hi) :
    (shl16 lo ≤ (t.left y).x y ∧ (t.left y).x y ≤ shl16 hi) ∧
      (shl16 lo ≤ (t.right y).x y ∧ (t.right y).x y ≤ shl16 hi) := by
  have hl := Tri.long_between hy ha hc
  have hs := Tri.short_between hy ha hb hc
  unfold Tri.left Tri.right
  split
  · exact ⟨hl, hs⟩
  · exact ⟨hs, hl⟩

end

@[simp] theorem Shading.pixel_x (sh : Shading) (x y : Int) (a : Attrs) : (sh.pixel x y a).x = x := rfl
@[simp] theorem Shading.pixel_y (sh : Shading) (x y : Int) (a : Attrs) : (sh.pixel x y a).y = y := rfl

/-- A triangle with its vertices in a rectangle has its pixels there, and in the clip rectangle (R226, R242). -/
theorem trianglePixels_has {box clip : Rect} {sh : Shading} {p0 p1 p2 : Vert} (h0 : box.has p0.x p0.y = true)
    (h1 : box.has p1.x p1.y = true) (h2 : box.has p2.x p2.y = true) {q : Pixel}
    (hq : q ∈ trianglePixels clip sh p0 p1 p2) : (box.inter clip).has q.x q.y = true := by
  obtain ⟨ha, hb, hc⟩ := Tri.sort_forall (P := fun p => box.has p.x p.y = true) h0 h1 h2
  unfold trianglePixels at hq
  generalize Tri.sort p0 p1 p2 = t at ha hb hc hq
  rw [Rect.has_iff] at ha hb hc
  unfold Tri.pixels at hq
  split at hq
  · cases hq
  · obtain ⟨y, hy, hrow⟩ := List.mem_flatMap.1 hq
    obtain ⟨x, hx, rfl⟩ := List.mem_map.1 hrow
    rw [mem_rangeII] at hy hx
    obtain ⟨hleft, hright⟩ :=
      Tri.left_right_between (y := y) (by omega) ha.1 hb.1 hc.1
    have hl := ceil16_between hleft
    have hr := ceil16_between hright
    rw [Rect.has_inter, Rect.has_iff, Rect.has_iff]
    simp only [Tri.pixel, Shading.pixel_x, Shading.pixel_y]
    omega

/-- The rectangle path stays between its first and its last vertex (R240). -/
theorem quadRectPixels_has {box clip : Rect} {sh : Shading} {p0 p1 p2 : Vert} (h0 : box.has p0.x p0.y = true)
    (h1 : box.has p1.x p1.y = true) (h2 : box.has p2.x p2.y = true) {q : Pixel}
    (hq : q ∈ quadRectPixels clip sh p0 p1 p2) : (box.inter clip).has q.x q.y = true := by
  obtain ⟨y, hy, hrow⟩ := List.mem_flatMap.1 hq
  obtain ⟨x, hx, rfl⟩ := List.mem_map.1 hrow
  rw [mem_rangeII] at hy hx
  rw [Rect.has_iff] at h0 h1 h2
  rw [Rect.has_inter, Rect.has_iff, Rect.has_iff]
  simp only [Shading.pixel_x, Shading.pixel_y]
  omega

theorem box3_has (p q r : Vert) :
    (box3 p q r).has p.x p.y = true ∧ (box3 p q r).has q.x q.y = true ∧ (box3 p q r).has r.x r.y = true := by
  simp only [Rect.has_iff, box3]; omega

theorem bbox_has {a b : Rect} {x y : Int} (h : a.has x y = true ∨ b.has x y = true) :
    (bbox (some a) b).has x y = true := by
  simp only [Rect.has_iff, bbox] at *; omega

theorem Rect.has_corner (x y : Int) : (Rect.mk x y x y).has x y = true := by
  simp [Rect.has_iff]

/-- A polygon's pixels are in its vertices' bounding box and in the clip rectangle (R226, R242). -/
theorem PolyCmd.pixels_has {c : PolyCmd} {ofs : DrawOffset} {clip : Rect} {q : Pixel}
    (hq : q ∈ c.pixels ofs clip) : ((c.box ofs).inter clip).has q.x q.y = true := by
  obtain ⟨h0, h1, h2⟩ := box3_has (c.w0.vert ofs) (c.w1.vert ofs) (c.w2.vert ofs)
  unfold PolyCmd.pixels at hq
  unfold PolyCmd.box
  cases hw : c.w3 with
  | none =>
    simp only [hw] at hq
    exact trianglePixels_has h0 h1 h2 hq
  | some w3 =>
    have h0' := bbox_has (b := ⟨(w3.vert ofs).x, (w3.vert ofs).y, (w3.vert ofs).x, (w3.vert ofs).y⟩) (.inl h0)
    have h1' := bbox_has (b := ⟨(w3.vert ofs).x, (w3.vert ofs).y, (w3.vert ofs).x, (w3.vert ofs).y⟩) (.inl h1)
    have h2' := bbox_has (b := ⟨(w3.vert ofs).x, (w3.vert ofs).y, (w3.vert ofs).x, (w3.vert ofs).y⟩) (.inl h2)
    have h3' := bbox_has (a := box3 (c.w0.vert ofs) (c.w1.vert ofs) (c.w2.vert ofs))
      (.inr (Rect.has_corner (w3.vert ofs).x (w3.vert ofs).y))
    simp only [hw, quadPixels] at hq ⊢
    split at hq
    · exact quadRectPixels_has h0' h1' h2' hq
    · rcases List.mem_append.1 hq with hq | hq
      · exact trianglePixels_has h0' h1' h2' hq
      · exact trianglePixels_has h1' h2' h3' hq

/-! ## Rectangles -/

theorem RectCmd.pixels_has {c : RectCmd} {ofs : DrawOffset} {clip : Rect} {q : Pixel}
    (hq : q ∈ c.pixels ofs clip) : ((c.extent ofs).inter clip).has q.x q.y = true := by
  obtain ⟨y, hy, hrow⟩ := List.mem_flatMap.1 hq
  obtain ⟨x, hx, rfl⟩ := List.mem_map.1 hrow
  exact Rect.has_iff.2 ⟨mem_rangeII.1 hx, mem_rangeII.1 hy⟩

/-! ## Lines -/

/-- The cell of a walk `i` major and `j` minor steps after a cell (R285). -/
def Walk.after (k : Walk) (p : Int × Int) (i j : Nat) : Int × Int :=
  if k.xmajor then (p.1 + k.sx * i, p.2 + k.sy * j) else (p.1 + k.sx * j, p.2 + k.sy * i)

theorem Walk.after_major (k : Walk) (p : Int × Int) (i j : Nat) :
    k.after (k.major p) i j = k.after p (i + 1) j := by
  unfold Walk.after Walk.major
  split <;> (push_cast; ring_nf)

theorem Walk.after_minor (k : Walk) (p : Int × Int) (i j : Nat) :
    k.after (k.minor p) i j = k.after p i (j + 1) := by
  unfold Walk.after Walk.minor
  split <;> (push_cast; ring_nf)

/-- A cell of a walk is some major steps on and so many minor steps as the accumulator has allowed: it starts at `acc`,
loses `m` a major step, gains `count` a minor step, and stays below `count` (R285). -/
theorem Walk.mem_cells {k : Walk} {n : Nat} {p q : Int × Int} {acc : Int} (h0 : 0 ≤ acc) (h1 : acc < k.count)
    (hm : k.m ≤ k.count) (hq : q ∈ k.cells n p acc) :
    ∃ i j : Nat, i ≤ n ∧ (j : Int) * k.count + acc < k.count + (i : Int) * k.m ∧ q = k.after p i j := by
  induction n generalizing p acc with
  | zero =>
    obtain rfl : q = p := by simpa [Walk.cells] using hq
    exact ⟨0, 0, le_refl 0, by simpa using h1, by simp [Walk.after]⟩
  | succ n ih =>
    rw [Walk.cells] at hq
    rcases List.mem_cons.1 hq with rfl | hq
    · exact ⟨0, 0, Nat.zero_le _, by simpa using h1, by simp [Walk.after]⟩
    · split at hq
      · obtain ⟨i, j, hi, hj, rfl⟩ := ih (by omega) (by omega) hq
        refine ⟨i + 1, j + 1, by omega, ?_, by rw [k.after_minor, k.after_major]⟩
        push_cast; linarith
      · obtain ⟨i, j, hi, hj, rfl⟩ := ih (by omega) (by omega) hq
        refine ⟨i + 1, j, by omega, ?_, k.after_major p i j⟩
        push_cast; linarith

/-- A segment takes at most `m` minor steps (R285). -/
theorem minorSteps_le {count m i j acc : Nat} (hi : i ≤ count)
    (h : (j : Int) * count + acc < count + (i : Int) * m) : j ≤ m := by
  by_contra hj
  have h1 : (m + 1) * count ≤ j * count := Nat.mul_le_mul_right _ (by omega)
  have h2 : i * m ≤ count * m := Nat.mul_le_mul_right _ hi
  have h3 : j * count + acc < count + i * m := by exact_mod_cast h
  linarith [Nat.mul_comm count m, Nat.add_mul m 1 count]

/-- So many steps from one coordinate toward another as lie between them at most end between them (R283). -/
theorem lineSign_between {a b : Int} {i : Nat} (h : i ≤ (b - a).natAbs) :
    min a b ≤ a + lineSign (b - a) * i ∧ a + lineSign (b - a) * i ≤ max a b := by
  unfold lineSign; split <;> omega

/-- The cells of a segment are in its endpoints' bounding box (R286). -/
theorem lineCells_has {p0 p1 q : Int × Int} (hq : q ∈ lineCells p0 p1) : (lineBox p0 p1).has q.1 q.2 = true := by
  have hcount : (Walk.of p0 p1).count = max (p1.1 - p0.1).natAbs (p1.2 - p0.2).natAbs := rfl
  have hm : (Walk.of p0 p1).m = min (p1.1 - p0.1).natAbs (p1.2 - p0.2).natAbs := rfl
  rw [Rect.has_iff]
  unfold lineCells at hq
  rcases Nat.eq_zero_or_pos (Walk.of p0 p1).count with hz | hpos
  · rw [hz, Walk.cells, List.mem_singleton] at hq
    subst hq
    simp only [lineBox]; omega
  · obtain ⟨i, j, hi, hj, rfl⟩ := Walk.mem_cells (by omega) (by omega) (by omega) hq
    have hjm := minorSteps_le hi hj
    rw [hcount] at hi
    rw [hm] at hjm
    by_cases hx : (p1.1 - p0.1).natAbs ≥ (p1.2 - p0.2).natAbs
    · have hcell : (Walk.of p0 p1).after p0 i j =
          (p0.1 + lineSign (p1.1 - p0.1) * i, p0.2 + lineSign (p1.2 - p0.2) * j) := if_pos (decide_eq_true hx)
      rw [hcell]
      exact ⟨lineSign_between (by omega), lineSign_between (by omega)⟩
    · have hcell : (Walk.of p0 p1).after p0 i j =
          (p0.1 + lineSign (p1.1 - p0.1) * j, p0.2 + lineSign (p1.2 - p0.2) * i) := if_neg (by simpa [Walk.of] using hx)
      rw [hcell]
      exact ⟨lineSign_between (by omega), lineSign_between (by omega)⟩

theorem linePixels_has {p0 p1 : Int × Int} {c0 c1 : Rgb} {q : Pixel} (hq : q ∈ linePixels p0 p1 c0 c1) :
    (lineBox p0 p1).has q.x q.y = true :=
  lineCells_has (linePixels_cell hq)

end Sys2Proof.Machine
end

section
/-! What a command, a GP0 word and a step do to the fields the invariants speak of, said once for all of them. -/

namespace Sys2Proof.Machine

/-! ## The fields beside VRAM, its caches and the lock -/

/-- The state with every field forgotten but the sequencing and read-out registers, the image-in sub-state and main
memory: two states agree on those fields exactly when they agree on this. -/
def State.control (s : State) : State :=
  { State.reset with dstate := s.dstate, cbuf := s.cbuf, clen := s.clen, ctarget := s.ctarget, xkind := s.xkind,
                     img := s.img, rd := s.rd, mainMem := s.mainMem }

/-- A property that speaks of those fields, of VRAM and of the page cache only. -/
def Framed (P : State → Prop) : Prop :=
  ∀ s t : State, t.control = s.control → t.vram = s.vram → t.tpc = s.tpc → P s → P t

/-- The bracket of R90 leads from such a property to another as the operation in it does; a held call changes nothing. -/
theorem locked_keeps {P Q : State → Prop} (hP : Framed P) (hQ : Framed Q) {f : State → State}
    (hf : ∀ u, P u → Q (f u)) {s : State} (hs : P s) (hsink : Q s) : Q (locked f s) := by
  rcases locked_cases f s with ⟨-, e⟩ | ⟨-, e⟩ | ⟨-, e⟩ <;> rw [e]
  · exact hQ (f (acquireLock s)) _ rfl rfl rfl (hf _ (hP s _ rfl rfl rfl hs))
  · exact hf s hs
  · exact hsink

theorem locked_lock {f : State → State} (hf : ∀ u, (f u).lock = u.lock) (s : State) :
    (locked f s).lock = s.lock := by
  rcases locked_cases f s with ⟨h, e⟩ | ⟨-, e⟩ | ⟨-, e⟩ <;> rw [e]
  · exact h.symm
  · exact hf s

/-! ## The drawing commands -/

theorem Vram.Redraws.trans {u v w : Vram} (h : v.Redraws w) (hu : u.Redraws v) : u.Redraws w := by
  induction h with
  | refl => exact hu
  | resolve k e _ ih => exact ih.resolve k e
  | reported r hr _ hw ih => exact ih.reported r hr hw

/-- A drawing command's whole effect: `DM` (R224), VRAM, the page cache and the dirty rectangle. -/
def State.RedrawsTo (s t : State) : Prop :=
  ∃ dm vram tpc dirty, t = { s with dm := dm, vram := vram, tpc := tpc, dirty := dirty } ∧ s.vram.Redraws vram

theorem State.RedrawsTo.refl (s : State) : s.RedrawsTo s := ⟨_, _, _, _, rfl, .refl⟩

theorem State.RedrawsTo.control {s t : State} (h : s.RedrawsTo t) : t.control = s.control := by
  obtain ⟨_, _, _, _, rfl, -⟩ := h; rfl

theorem State.RedrawsTo.lock {s t : State} (h : s.RedrawsTo t) : t.lock = s.lock := by
  obtain ⟨_, _, _, _, rfl, -⟩ := h; rfl

theorem State.RedrawsTo.vram {s t : State} (h : s.RedrawsTo t) : s.vram.Redraws t.vram := by
  obtain ⟨_, _, _, _, rfl, h⟩ := h; exact h

/-- The draw and the report of a primitive, after the command's own write of `DM`. -/
theorem drawPrimitive_redrawsTo (s : State) (dm : DrawMode) (textured raw semi : Bool) (k : ClutSel)
    {ps : List Pixel} {r : Rect} (hr : r.insideVram) (hp : ∀ p ∈ ps, r.has p.x p.y = true) :
    s.RedrawsTo (reportIfAny r (drawPrimitive textured raw semi k ps { s with dm := dm })) := by
  have hv := drawPrimitive_redraws (s := { s with dm := dm }) .refl textured raw semi k hr hp
  have hframe := drawPrimitive_frame textured raw semi k ps { s with dm := dm }
  generalize drawPrimitive textured raw semi k ps { s with dm := dm } = d at hv hframe ⊢
  refine ⟨dm, _, (reportIfAny r d).tpc, (reportIfAny r d).dirty, ?_, hv⟩
  unfold reportIfAny
  split
  · rw [hframe]
  · rw [hframe]; rfl

theorem writeMode_eq (c : PolyCmd) (s : State) : c.writeMode s = { s with dm := (c.writeMode s).dm } := by
  unfold PolyCmd.writeMode; split <;> rfl

theorem polygon_redrawsTo (c : PolyCmd) (s : State) : s.RedrawsTo (polygon c s) := by
  unfold polygon
  rw [writeMode_eq c s]
  split
  · exact ⟨_, _, _, _, rfl, .refl⟩
  · unfold PolyCmd.draw
    rw [mod16Check_eq]
    exact drawPrimitive_redrawsTo s _ _ _ _ _ (Rect.inter_insideVram _ (clip_insideVram _))
      fun _ hp => PolyCmd.pixels_has hp

theorem rectangle_redrawsTo (c : RectCmd) (s : State) : s.RedrawsTo (rectangle c s) := by
  unfold rectangle
  split
  · exact .refl s
  · unfold RectCmd.draw
    rw [mod16Check_eq]
    exact drawPrimitive_redrawsTo s s.dm _ _ _ _ (Rect.inter_insideVram _ (clip_insideVram _))
      fun _ hp => RectCmd.pixels_has hp

/-- The bounding box of endpoints inside the clip rectangle is inside VRAM (R282). -/
theorem lineBox_insideVram {clip : ClipRect} {p0 p1 : Int × Int} (h : lineAccepted clip p0 p1 = true) :
    (lineBox p0 p1).insideVram := by
  obtain ⟨h0, h1⟩ := (Bool.and_eq_true _ _).mp h
  rw [Rect.has_iff] at h0 h1
  have hc := clip_insideVram clip
  simp only [Rect.insideVram, lineBox] at *
  omega

theorem segment_redrawsTo (p0 p1 : Int × Int) (c0 c1 : Rgb) (semi : Bool) (s : State) :
    s.RedrawsTo (segment p0 p1 c0 c1 semi s) := by
  unfold segment
  split
  · next ha =>
    have hin := lineBox_insideVram ha
    exact ⟨_, _, _, _, rfl, .reported _ hin .refl
      (plotAll_writesIn _ _ fun p hp => Rect.has_mod hin (linePixels_has hp))⟩
  · exact .refl s

theorem fill_redrawsTo (o : Fill) (s : State) : s.RedrawsTo (fill o s) := by
  have hv := fill_redraws o s
  unfold fill at hv ⊢
  split
  · exact .refl s
  · next h => rw [if_neg h] at hv; exact ⟨_, _, _, _, rfl, hv⟩

theorem vcopy_redrawsTo (o : Copy) (s : State) : s.RedrawsTo (vcopy o s) := ⟨_, _, _, _, rfl, vcopy_redraws o s⟩

/-- A bracketed drawing command leaves the fields beside VRAM as they are and redraws VRAM. -/
theorem locked_draws {f : State → State} (hf : ∀ u : State, u.RedrawsTo (f u)) (s : State) :
    (locked f s).control = s.control ∧ s.vram.Redraws (locked f s).vram := by
  have hP : Framed fun u => u.control = s.control ∧ s.vram.Redraws u.vram :=
    fun u t hc hv _ ⟨h1, h2⟩ => ⟨hc.trans h1, hv ▸ h2⟩
  exact locked_keeps hP hP (fun u ⟨h1, h2⟩ => ⟨(hf u).control.trans h1, (hf u).vram.trans h2⟩)
    ⟨rfl, .refl⟩ ⟨rfl, .refl⟩

/-! ## One instruction -/

/-- The state after a reset or an abort of the command in progress is reported (R198). -/
theorem reportAborted_eq (s : State) :
    reportAborted s = { s with vram := (reportAborted s).vram, tpc := (reportAborted s).tpc,
                               dirty := (reportAborted s).dirty } := by
  unfold reportAborted; split <;> rfl

/-- What an instruction does, as far as the fields of `State.control`, VRAM and its caches are concerned. -/
inductive ExecEffect (i : Instr) (s : State) : State → Prop where
  | draws {t : State} (hc : t.control = s.control) (hv : s.vram.Redraws t.vram) : ExecEffect i s t
  | polyline (c : LineCmd) (hw : writesVram i = true) : ExecEffect i s (locked (polyline (polyKind i) c) s)
  | imageIn (o : Xfer) (ho : sizeWf o.w o.h = true) (hw : writesVram i = true) :
      ExecEffect i s (locked (imageIn o) s)
  | imageOut (o : Xfer) (ho : sizeWf o.w o.h = true) : ExecEffect i s (imageOut o s)
  | info (o : Info) : ExecEffect i s (latchInfo o s)
  | reset : ExecEffect i s (softReset (reportAborted s))
  | abort : ExecEffect i s { reportAborted s with dstate := .idle, clen := 0 }

theorem decideRefresh_control (s : State) : (decideRefresh s).control = s.control := by
  unfold decideRefresh decideWith; split <;> rfl
theorem decideRefresh_vram (s : State) : (decideRefresh s).vram = s.vram := by
  unfold decideRefresh decideWith; split <;> rfl
theorem decideRefresh_tpc (s : State) : (decideRefresh s).tpc = s.tpc := by
  unfold decideRefresh decideWith; split <;> rfl
theorem decideRefresh_lock (s : State) : (decideRefresh s).lock = s.lock := by
  unfold decideRefresh decideWith; split <;> rfl

/-- An instruction has one outcome: what holds of the state it leads to in one form holds in any. -/
theorem of_exec_eq {P : State → Prop} {i : Instr} {s t u : State} (h : exec i s = .next t) (he : exec i s = .next u)
    (hu : P u) : P t := by
  obtain rfl : u = t := by simpa using he.symm.trans h
  exact hu

/-- Every well-formed instruction has one of these effects. -/
theorem exec_effect {i : Instr} (hwf : i.wf = true) {s t : State} (h : exec i s = .next t) : ExecEffect i s t := by
  have is : ∀ {u : State}, exec i s = .next u → ExecEffect i s u → ExecEffect i s t := fun he hu => of_exec_eq h he hu
  have same : ∀ {u : State}, exec i s = .next u → u.control = s.control → u.vram = s.vram → ExecEffect i s t :=
    fun he hc hv => is he (.draws hc (hv ▸ .refl))
  have draws : ∀ {f : State → State}, exec i s = .next (locked f s) → (∀ u : State, u.RedrawsTo (f u)) →
      ExecEffect i s t := fun he hf => is he (.draws (locked_draws hf s).1 (locked_draws hf s).2)
  cases execForm i with
  | keeps _ _ he => exact same (he s) rfl rfl
  | flush e => subst e; exact same rfl rfl rfl
  | fill o e => subst e; exact draws rfl (fill_redrawsTo o)
  | polygon c _ _ he => exact draws (he s) (polygon_redrawsTo c)
  | rectangle c _ _ he => exact draws (he s) (rectangle_redrawsTo c)
  | line c _ _ _ he => exact draws (he s) fun u => segment_redrawsTo _ _ _ _ _ u
  | polyline c _ _ hw he => exact is (he s) (.polyline c hw)
  | copy o _ _ he => exact draws (he s) (vcopy_redrawsTo o)
  | imageIn o ho _ hw he => exact is (he s) (.imageIn o (by simpa [Instr.wf, ho, Operands.wf] using hwf) hw)
  | imageOut o ho _ _ he => exact is (he s) (.imageOut o (by simpa [Instr.wf, ho, Operands.wf] using hwf))
  | g1Reset e => subst e; exact is rfl .reset
  | g1Abort e => subst e; exact is rfl .abort
  | g1Origin o e => subst e; exact same rfl (decideRefresh_control _) (decideRefresh_vram _)
  | info o _ _ he => exact is (he s) (.info o)
  | setmode o e | settw o e | setclip1 o e | setclip2 o e | setofs o e | setmask o e | g1Dispen o e
  | g1Dmadir o e | g1Hrange o e | g1Vrange o e | g1Mode o e => subst e; exact same rfl rfl rfl

/-- No instruction leaves the lock in other hands than before (R90). -/
theorem exec_lock {i : Instr} {s t : State} (h : exec i s = .next t) : t.lock = s.lock := by
  have is : ∀ {u : State}, exec i s = .next u → u.lock = s.lock → t.lock = s.lock :=
    fun he hu => of_exec_eq (P := fun v => v.lock = s.lock) h he hu
  cases execForm i with
  | keeps _ _ he => exact is (he s) rfl
  | flush e => subst e; exact is rfl rfl
  | fill o e => subst e; exact is rfl (locked_lock (fun u => (fill_redrawsTo o u).lock) s)
  | polygon c _ _ he => exact is (he s) (locked_lock (fun u => (polygon_redrawsTo c u).lock) s)
  | rectangle c _ _ he => exact is (he s) (locked_lock (fun u => (rectangle_redrawsTo c u).lock) s)
  | line c _ _ _ he => exact is (he s) (locked_lock (fun u => (segment_redrawsTo _ _ _ _ _ u).lock) s)
  | polyline c _ _ _ he =>
    refine is (he s) (locked_lock (fun u => ?_) s)
    unfold polyline; split <;> simp
  | copy o _ _ he => exact is (he s) (locked_lock (fun u => (vcopy_redrawsTo o u).lock) s)
  | imageIn o _ _ _ he => exact is (he s) (locked_lock (f := Machine.imageIn o) (fun u => formatSwitch_lock o.w u) s)
  | imageOut o _ _ _ he => exact is (he s) rfl
  | g1Reset e => subst e; exact is rfl (reportAborted_lock s)
  | g1Abort e => subst e; exact is rfl (reportAborted_lock s)
  | g1Origin o e => subst e; exact is rfl (decideRefresh_lock _)
  | info o _ _ he => exact is (he s) rfl
  | setmode o e | settw o e | setclip1 o e | setclip2 o e | setofs o e | setmask o e | g1Dispen o e
  | g1Dmadir o e | g1Hrange o e | g1Vrange o e | g1Mode o e => subst e; exact is rfl rfl

/-! ## What is decoded is well formed (R124, R133) -/

theorem sizeWf_sizeField (v w : Nat) : sizeWf (sizeField 1024 v) (sizeField 512 w) = true := by
  have hv := sizeField_bounds (m := 1024) (by decide) v
  have hw := sizeField_bounds (m := 512) (by decide) w
  simp [sizeWf, hv, hw]

theorem Copy.ofWords_wf (ws : List Word) : sizeWf (Copy.ofWords ws).w (Copy.ofWords ws).h = true :=
  sizeWf_sizeField ..

theorem Xfer.ofWords_wf (ws : List Word) : sizeWf (Xfer.ofWords ws).w (Xfer.ofWords ws).h = true :=
  sizeWf_sizeField ..

theorem Fill.ofWords_wf (ws : List Word) : (Fill.ofWords ws).wf = true := by
  have hx := (field (wordAt ws 1) 0 10).isLt
  have hw := (field (wordAt ws 2) 0 10).isLt
  simp only [Fill.wf, Fill.ofWords, fillX, fillW, Bool.and_eq_true, beq_iff_eq]
  refine ⟨⟨?_, decide_eq_true ?_⟩, ?_, decide_eq_true ?_⟩ <;> omega

theorem gp0Instr_wf (op : BitVec 8) (ws : List Word) : (gp0Instr op ws).wf = true := by
  unfold gp0Instr
  split
  · unfold decodeMisc; split
    case h_3 => exact Fill.ofWords_wf ws
    all_goals rfl
  · unfold decodePolygon; split <;> rfl
  · unfold decodeLine; split <;> rfl
  · unfold decodeRect; split <;> rfl
  · unfold decodeCopy; split <;> exact Copy.ofWords_wf ws
  · unfold decodeImageIn; split <;> exact Xfer.ofWords_wf ws
  · unfold decodeImageOut; split <;> exact Xfer.ofWords_wf ws
  · unfold decodeMode; split <;> rfl

/-- A GP1 word is a well-formed command that writes no VRAM (R127, R350). -/
theorem decodeGp1_wf (w : Word) : (decodeGp1 w).wf = true ∧ writesVram (decodeGp1 w) = false := by
  unfold decodeGp1 decodeGp1Low decodeGp1High
  split <;> split <;> exact ⟨rfl, rfl⟩

theorem opLen_pos : ∀ op : BitVec 8, 1 ≤ opLen op := by decide +kernel

/-! ## One GP0 word -/

theorem wordAt_set_same {ws : List Word} {n : Nat} (h : n < ws.length) (w : Word) : wordAt (ws.set n w) n = w := by
  simp [wordAt, h]

theorem wordAt_set_ne {ws : List Word} {n m : Nat} (h : n ≠ m) (w : Word) : wordAt (ws.set n w) m = wordAt ws m := by
  simp [wordAt, List.getElem?_set_ne h]

/-- A word taken into the buffer, or dropped: only the sequencing registers change, and no data phase is open after. -/
structure State.Received (s t : State) : Prop where
  frame : t = { s with dstate := t.dstate, cbuf := t.cbuf, clen := t.clen, ctarget := t.ctarget }
  closed : t.dstate ≠ .extraData
  sequencing : s.sequencingWf → t.sequencingWf

/-- What a GP0 word does: it is taken, it completes a command, or it is data (R140). -/
inductive Gp0Effect (w : Word) (s : State) : State → Prop where
  | received {t : State} (hd : s.dstate ≠ .extraData) (h : s.Received t) : Gp0Effect w s t
  | dispatched {u t : State} (hd : s.dstate ≠ .extraData) (h : s.Received u) {i : Instr} (hi : i.wf = true)
      (he : exec i u = .next t) : Gp0Effect w s t
  | data (hd : s.dstate = .extraData) : Gp0Effect w s (locked (dataWord w) s)

theorem dispatch_effect {w : Word} {s u t : State} (hd : s.dstate ≠ .extraData) (hu : s.Received u)
    (h : dispatch u = .next t) : Gp0Effect w s t := by
  unfold dispatch at h
  split at h
  · next i hi =>
    refine .dispatched hd hu ?_ h
    unfold decodeGp0 at hi
    split at hi
    · cases hi
    · split at hi
      · cases hi
      · cases hi; exact gp0Instr_wf _ _
  · cases h; exact .received hd hu

theorem gp0Idle_effect {w : Word} {s t : State} (hd : s.dstate = .idle) (h : gp0Idle w s = .next t) :
    Gp0Effect w s t := by
  have hd' : s.dstate ≠ .extraData := by simp [hd]
  have hlen : s.sequencingWf → (s.cbuf.set 0 w).length = 12 := fun hs => by simpa using hs.1
  unfold gp0Idle at h
  split at h
  · refine dispatch_effect (u := { s with cbuf := s.cbuf.set 0 w, clen := 1, ctarget := 1 }) hd'
      ⟨rfl, hd', fun hs => ⟨hlen hs, fun hf => ?_⟩⟩ h
    exact absurd (hd.symm.trans hf) (by decide)
  · next hne =>
    cases h
    refine .received hd' ⟨rfl, by simp, fun hs => ⟨hlen hs, fun _ => ⟨le_refl 1, ?_, ?_⟩⟩⟩
    · exact lt_of_le_of_ne (opLen_pos _) (Ne.symm hne)
    · simp only [wordAt_set_same (show 0 < s.cbuf.length by have := hs.1; omega)]

theorem gp0Filling_effect {w : Word} {s t : State} (hd : s.dstate = .filling) (h : gp0Filling w s = .next t) :
    Gp0Effect w s t := by
  have hd' : s.dstate ≠ .extraData := by simp [hd]
  unfold gp0Filling at h
  split at h
  · split at h
    · exact dispatch_effect hd' ⟨rfl, by simp, fun hs => ⟨by simpa using hs.1, by simp⟩⟩ h
    · next hne =>
      cases h
      refine .received hd' ⟨rfl, hd', fun hs => ⟨by simpa using hs.1, fun _ => ?_⟩⟩
      obtain ⟨h1, h2, h3⟩ := hs.2 hd
      refine ⟨Nat.le_add_left 1 _, lt_of_le_of_ne h2 hne, ?_⟩
      simpa only [wordAt_set_ne (show s.clen ≠ 0 by omega)] using h3
  · cases h
    exact .received hd' ⟨rfl, by simp, fun hs => ⟨hs.1, by simp⟩⟩

theorem gp0Write_effect {w : Word} {s t : State} (h : gp0Write w s = .next t) : Gp0Effect w s t := by
  unfold gp0Write at h
  split at h
  · next hd => exact gp0Idle_effect hd h
  · next hd => exact gp0Filling_effect hd h
  · next hd => cases h; exact .data hd

theorem State.Received.lock {s t : State} (h : s.Received t) : t.lock = s.lock := by rw [h.frame]

theorem imageInWord_lock (w : Word) (s : State) : (imageInWord w s).lock = s.lock := by
  unfold imageInWord imageCount imageHalf
  repeat' split
  all_goals rfl

theorem dataWord_lock (w : Word) (s : State) : (dataWord w s).lock = s.lock := by
  unfold dataWord
  split
  · exact imageInWord_lock w s
  · unfold polyFlatWord; split <;> simp
  · unfold polyGouraudWord; split <;> (try split) <;> simp

theorem gp0Write_lock {w : Word} {s t : State} (h : gp0Write w s = .next t) : t.lock = s.lock := by
  cases gp0Write_effect h with
  | received _ hr => exact hr.lock
  | dispatched _ hr _ he => exact (exec_lock he).trans hr.lock
  | data _ => exact locked_lock (dataWord_lock w) s

/-! ## One step -/

/-- What it takes for a property to be kept by every step: by frames, GP0 and GP1 words, reads, and stores to main
memory. -/
structure Kept (P : State → Prop) : Prop where
  framed : Framed P
  gp0 : ∀ {w s t}, P s → gp0Write w s = .next t → P t
  gp1 : ∀ {w s t}, P s → gp1Write w s = .next t → P t
  read : ∀ {s}, P s → P (gpuRead s).2
  mem : ∀ {s m}, (Memory.wf none mainBytes s.mainMem = true → Memory.wf none mainBytes m = true) → P s →
    P { s with mainMem := m }

section
variable {P : State → Prop} (hP : Kept P)
include hP

theorem Kept.forward {a : Nat} {k : State → Out} (hk : ∀ {s t}, P s → k s = .next t → P t) {n i : Nat} {s t : State}
    (hs : P s) (h : forward a k n i s = .next t) : P t := by
  induction n generalizing i s with
  | zero => exact hk hs h
  | succ n ih =>
    rw [Machine.forward] at h
    split at h
    · cases h; exact hs
    · obtain ⟨u, hu, h⟩ := andThen_eq_next.1 h
      exact ih (hP.gp0 hs hu) h

theorem Kept.blockOut {base : Word} {n i : Nat} {s t : State} (hs : P s) (h : blockOut base n i s = .next t) :
    P t := by
  induction n generalizing i s with
  | zero => cases h; exact hs
  | succ n ih =>
    rw [Machine.blockOut] at h
    have hread := hP.read hs
    have hsame : (gpuRead s).2.mainMem = s.mainMem := by
      rcases gpuRead_cases s with ⟨-, e⟩ | ⟨-, e⟩ <;> rw [e]
    split at h
    · cases h; exact hread
    · next m hm => exact ih (hP.mem (fun hw => memWrite_wf (hsame ▸ hw) (wordAddr_lt _) hm) hread) h

theorem Kept.listWalk {fuel ptr : Nat} {s t : State} (hs : P s) (h : listWalk fuel ptr s = .next t) : P t := by
  induction fuel generalizing ptr s t with
  | zero => cases h
  | succ fuel ih =>
    rw [Machine.listWalk] at h
    split at h
    · cases h; exact hs
    · refine hP.forward (fun {u v} hu hk => ?_) hs h
      split at hk
      · cases hk; exact hu
      · exact ih hu hk

theorem Kept.dmaBody {base ctrl : Word} {bc bs : BitVec 16} {s t : State} (hs : P s)
    (h : dmaBody base bc bs ctrl s = .next t) : P t := by
  unfold Machine.dmaBody at h
  split at h
  · exact hP.listWalk hs h
  · split at h
    · exact hP.forward (fun {u v} hu hk => by cases hk; exact hu) hs h
    · exact hP.blockOut hs h

theorem Kept.dmaTransfer {base ctrl : Word} {bc bs : BitVec 16} {s t : State} (hs : P s)
    (h : dmaTransfer base bc bs ctrl s = .next t) : P t := by
  unfold Machine.dmaTransfer at h
  split at h
  · obtain ⟨u, hu, h⟩ := andThen_eq_next.1 h
    cases h
    have hacq : P (acquireLock s) := hP.framed s _ rfl rfl rfl hs
    exact hP.framed u _ rfl rfl rfl (hP.dmaBody hacq hu)
  · cases h; exact hs

theorem Kept.runCall {c : Call} {s t : State} (hs : P s) (h : runCall c s = .next t) : P t := by
  cases c with
  | gp0Write w => exact hP.gp0 hs h
  | gp1Write w => exact hP.gp1 hs h
  | gpuRead => cases h; exact hP.framed (gpuRead s).2 _ rfl rfl rfl (hP.read hs)
  | gpuStat => cases h; exact hP.framed s _ rfl rfl rfl hs
  | dmaTransfer base bc bs ctrl => exact hP.dmaTransfer hs h
  | vsyncTick =>
    cases h
    exact hP.framed s _ (decideRefresh_control _) (decideRefresh_vram _) (decideRefresh_tpc _) hs
  | sinkAcquire => cases h; split <;> exact hP.framed s _ rfl rfl rfl hs
  | sinkRelease => cases h; split <;> exact hP.framed s _ rfl rfl rfl hs
  | clock dt => cases h; exact hP.framed s _ rfl rfl rfl hs
  | memStore a b => cases h; exact hP.mem (fun hw => Memory.wf_set hw a.isLt (by simp)) hs
  | memUnmap a => cases h; exact hP.mem (fun hw => Memory.wf_erase hw _) hs

theorem Kept.step {s t : State} (hs : P s) (h : step s = .next t) : P t := by
  unfold Machine.step nextCall at h
  split at h
  · cases h; exact hs
  · split at h
    · cases h
      unfold whileWaiting
      split
      · exact hP.framed s _ rfl rfl rfl hs
      · exact hs
    · next c rest _ _ =>
      have hrest : P { s with calls := rest } := hP.framed s _ rfl rfl rfl hs
      exact hP.runCall hrest h

end

theorem runCall_lock {c : Call} {s t : State} (hs : s.lock ≠ .block) (h : runCall c s = .next t) :
    t.lock ≠ .block := by
  cases c with
  | gp0Write w => rwa [gp0Write_lock h]
  | gp1Write w => rwa [exec_lock h]
  | gpuRead => cases h; rcases gpuRead_cases s with ⟨-, e⟩ | ⟨-, e⟩ <;> rw [e] <;> exact hs
  | dmaTransfer base bc bs ctrl =>
    simp only [runCall, dmaTransfer] at h
    split at h
    · obtain ⟨u, -, h⟩ := andThen_eq_next.1 h
      cases h; simp [dmaEnd]
    · cases h; exact hs
  | vsyncTick => cases h; rw [vsyncTick, decideRefresh_lock]; exact hs
  | sinkAcquire => cases h; split <;> simp [hs]
  | sinkRelease => cases h; split <;> simp [hs]
  | gpuStat | clock | memStore | memUnmap => cases h; exact hs

/-- Between two calls the block does not hold the lock (R90, R415). -/
theorem step_quiet {s t : State} (hs : s.quiet) (h : step s = .next t) : t.quiet := by
  unfold step nextCall at h
  split at h
  · cases h; exact hs
  · split at h
    · cases h
      unfold whileWaiting
      split
      · simp [State.quiet]
      · exact hs
    · next c rest _ _ => exact runCall_lock (s := { s with calls := rest }) hs h

end Sys2Proof.Machine
end

section
/-! The invariant holds after power-on and every step keeps it. Its part that speaks of the lock holds between calls
only: a DMA call holds the lock while it forwards words (R205), so the rest is kept by itself. -/

namespace Sys2Proof.Machine

/-- The invariant but for the lock. -/
structure State.Ranged (s : State) : Prop where
  sequencing : s.sequencingWf
  image : s.imageWf
  read : s.readWf
  vram : s.vram.Canonical
  mem : s.memWf

theorem inv_iff (s : State) : s.Inv ↔ s.Ranged ∧ s.quiet := by
  constructor
  · rintro ⟨hseq, himg, hread, hvram, hhidden, hmem, hlock⟩
    exact ⟨⟨hseq, himg, hread, (canonical_iff s).2 ⟨hvram, hhidden⟩, hmem⟩, hlock⟩
  · rintro ⟨⟨hseq, himg, hread, hvram, hmem⟩, hlock⟩
    obtain ⟨hnative, hhidden⟩ := (canonical_iff s).1 hvram
    exact ⟨hseq, himg, hread, hnative, hhidden, hmem, hlock⟩

/-! ## Frames -/

/-- The sequencing fields, the read-out, main memory and VRAM are all it speaks of. -/
theorem State.Ranged.of_control {s t : State} (h : s.Ranged) (hc : t.control = s.control) (hv : t.vram.Canonical) :
    t.Ranged where
  sequencing := by show t.control.sequencingWf; rw [hc]; exact h.sequencing
  image := by show t.control.imageWf; rw [hc]; exact h.image
  read := by show t.control.readWf; rw [hc]; exact h.read
  vram := hv
  mem := by show t.control.memWf; rw [hc]; exact h.mem

theorem framed_ranged : Framed State.Ranged := fun _ _ hc hv _ hs => hs.of_control hc (hv ▸ hs.vram)

theorem State.RedrawsTo.ranged {s t : State} (h : s.RedrawsTo t) (hs : s.Ranged) : t.Ranged :=
  hs.of_control h.control (h.vram.canonical hs.vram)

/-- Nothing is asked of the sequencing registers and sub-states in `Idle` but the buffer's size. -/
theorem State.Ranged.idle {s : State} (h : s.Ranged) (n : Nat) : State.Ranged { s with dstate := .idle, clen := n } :=
  ⟨⟨h.sequencing.1, by simp⟩, by simp [State.imageWf], h.read, h.vram, h.mem⟩

/-! ## The data phases -/

theorem polyKind_ne_imageIn (i : Instr) : polyKind i ≠ .imageIn := by
  unfold polyKind; split <;> simp

theorem polyline_ranged {kind : XKind} (hk : kind ≠ .imageIn) (c : LineCmd) {s : State} (hs : s.Ranged) :
    (polyline kind c s).Ranged := by
  have hdiag : (if c.semi then raiseDiag .semiPolyline s else s).Ranged := by
    split
    · exact hs.of_control (by simp [State.control]) (by simpa using hs.vram)
    · exact hs
  have hseg := (segment_redrawsTo (vertex s.ofs c.v0) (vertex s.ofs c.v1) c.c0 c.c1 false _).ranged hdiag
  exact ⟨⟨hseg.sequencing.1, by simp [polyline, openPolyline]⟩, fun _ hx => absurd hx hk, hseg.read, hseg.vram,
    hseg.mem⟩

theorem sizeWf_iff {w h : Nat} : sizeWf w h = true ↔ (1 ≤ w ∧ w ≤ 1024) ∧ 1 ≤ h ∧ h ≤ 512 := by simp [sizeWf]

theorem consistent_iff (i : ImageIn) :
    i.consistent = true ↔ sizeWf i.xw i.xh = true ∧ i.xpos ≤ i.xw * i.xh ∧ 1 ≤ i.xrem := by
  simp [ImageIn.consistent, sizeWf]

theorem formatSwitch_vram_eq (n : Nat) (s : State) :
    (formatSwitch n s).vram = s.vram.convertTo (wantedFormat s.pend.c24 n) := by
  unfold formatSwitch
  split
  · next h => simp [Vram.convertTo, h]
  · rfl

theorem imageIn_ranged {o : Xfer} (ho : sizeWf o.w o.h = true) {s : State} (hs : s.Ranged) : (imageIn o s).Ranged := by
  have hpos : 1 ≤ o.w * o.h := by
    obtain ⟨⟨hw, -⟩, hh, -⟩ := sizeWf_iff.1 ho
    exact Nat.mul_pos hw hh
  have hwords : 1 ≤ dataWords o.w o.h := by unfold dataWords; omega
  have hcanon : (imageIn o s).vram.Canonical := by
    rw [show (imageIn o s).vram = _ from formatSwitch_vram_eq o.w s]
    exact hs.vram.convertTo _
  refine ⟨⟨?_, by simp [imageIn]⟩, fun _ _ => ⟨?_, rfl, by simp [imageIn]⟩, ?_, hcanon, ?_⟩
  · simpa [imageIn] using hs.sequencing.1
  · exact (consistent_iff _).2 ⟨ho, Nat.zero_le _, hwords⟩
  · simpa [imageIn, State.readWf] using hs.read
  · simpa [imageIn, State.memWf] using hs.mem

/-! ## The words of an image-in (R195) -/

/-- One half stores a pixel in a cell of the target, or is dropped beyond the last. -/
theorem imageHalf_eq (p : BitVec 16) (s : State) : ∃ v, s.vram.WritesIn s.img.target v ∧
    imageHalf p s = { s with vram := v, img := { s.img with xpos :=
      if s.img.xpos < s.img.xw * s.img.xh then s.img.xpos + 1 else s.img.xpos } } := by
  unfold imageHalf
  split
  · next hx =>
    have hw : 0 < s.img.xw := Nat.pos_of_mul_pos_right (Nat.zero_lt_of_lt hx)
    refine ⟨_, ?_, rfl⟩
    exact ((Vram.WritesIn.refl).maskedWrite _ _
      (targetRect_has (Nat.mod_lt _ hw) (Nat.div_lt_of_lt_mul hx))).tag _ _ _
  · exact ⟨_, .refl, rfl⟩

theorem imageHalves_eq (p q : BitVec 16) {s : State} (hx : s.img.xpos ≤ s.img.xw * s.img.xh) :
    ∃ v, s.vram.WritesIn s.img.target v ∧ imageHalf q (imageHalf p s) =
      { s with vram := v, img := { s.img with xpos := min (s.img.xpos + 2) (s.img.xw * s.img.xh) } } := by
  obtain ⟨v, hv, e⟩ := imageHalf_eq p s
  obtain ⟨u, hu, e'⟩ := imageHalf_eq q (imageHalf p s)
  have hpos : (if (if s.img.xpos < s.img.xw * s.img.xh then s.img.xpos + 1 else s.img.xpos) < s.img.xw * s.img.xh
      then (if s.img.xpos < s.img.xw * s.img.xh then s.img.xpos + 1 else s.img.xpos) + 1
      else (if s.img.xpos < s.img.xw * s.img.xh then s.img.xpos + 1 else s.img.xpos)) =
      min (s.img.xpos + 2) (s.img.xw * s.img.xh) := by
    repeat' split
    all_goals omega
  refine ⟨u, ?_, ?_⟩
  · rw [e] at hu; exact hu.trans hv
  · rw [e', e]; simp only [hpos]

/-- What a data word does while the sub-state is as the invariant says: the last one ends the phase with the report of
the target, any other counts down (R195). -/
theorem imageInWord_cases {s : State} (hs : s.imageWf) (hm : s.midImage) (w : Word) :
    ∃ v, s.vram.WritesIn s.img.target v ∧
      ((s.img.xrem = 1 ∧ imageInWord w s = report s.img.target
        { s with vram := v, dstate := .idle,
                 img := { s.img with xpos := min (s.img.xpos + 2) (s.img.xw * s.img.xh), xrem := 0 } }) ∨
      (1 < s.img.xrem ∧ imageInWord w s =
        { s with vram := v, img := { s.img with xpos := min (s.img.xpos + 2) (s.img.xw * s.img.xh),
                                                xrem := s.img.xrem - 1 } })) := by
  obtain ⟨hc, -, -⟩ := hs hm.1 hm.2
  obtain ⟨-, hx, hrem⟩ := (consistent_iff _).1 hc
  obtain ⟨v, hv, e⟩ := imageHalves_eq (field w 0 16) (field w 16 16) hx
  refine ⟨v, hv, ?_⟩
  unfold imageInWord
  rw [if_pos hc, e]
  unfold imageCount
  by_cases h1 : s.img.xrem = 1
  · left
    refine ⟨h1, ?_⟩
    rw [if_pos (by simp [h1])]
    simp only [h1]
    rfl
  · right
    refine ⟨by omega, ?_⟩
    rw [if_neg (show ¬ s.img.xrem - 1 = 0 by omega)]

theorem imageInWord_ranged {s : State} (hs : s.Ranged) (hm : s.midImage) (w : Word) : (imageInWord w s).Ranged := by
  obtain ⟨v, hv, ⟨-, e⟩ | ⟨hrem, e⟩⟩ := imageInWord_cases hs.image hm w <;> rw [e]
  · exact ⟨⟨hs.sequencing.1, by simp⟩, by simp [State.imageWf], hs.read,
      (hv.canonical hs.vram).invalidate s.img.target, hs.mem⟩
  · obtain ⟨hc, heven, hcount⟩ := hs.image hm.1 hm.2
    obtain ⟨hsize, hx, -⟩ := (consistent_iff _).1 hc
    refine ⟨hs.sequencing, fun _ _ => ⟨?_, ?_, ?_⟩, hs.read, hv.canonical hs.vram, hs.mem⟩
    · exact (consistent_iff _).2 ⟨hsize, Nat.min_le_right .., by simp only; omega⟩
    · simp only [dataWords] at hcount ⊢; omega
    · simp only [dataWords] at hcount ⊢; omega

theorem polyFlatWord_ranged {s : State} (hs : s.Ranged) (w : Word) : (polyFlatWord w s).Ranged := by
  unfold polyFlatWord
  split
  · exact hs.idle s.clen
  · have hseg := (segment_redrawsTo s.pline.plast (vertex s.ofs (.ofWord w)) s.pline.pcol s.pline.pcol false s).ranged hs
    exact hseg.of_control rfl hseg.vram

theorem polyGouraudWord_ranged {s : State} (hs : s.Ranged) (w : Word) : (polyGouraudWord w s).Ranged := by
  unfold polyGouraudWord
  split
  · split
    · exact hs.idle s.clen
    · exact hs.of_control rfl hs.vram
  · have hseg := (segment_redrawsTo s.pline.plast (vertex s.ofs (.ofWord w)) s.pline.pcol s.pline.pnext false s).ranged hs
    exact hseg.of_control rfl hseg.vram

theorem dataWord_ranged {s : State} (hs : s.Ranged) (hd : s.dstate = .extraData) (w : Word) :
    (dataWord w s).Ranged := by
  unfold dataWord
  split
  · next hx => exact imageInWord_ranged hs ⟨hd, hx⟩ w
  · exact polyFlatWord_ranged hs w
  · exact polyGouraudWord_ranged hs w

/-! ## Instructions, words, reads -/

theorem imageOut_ranged {o : Xfer} (ho : sizeWf o.w o.h = true) {s : State} (hs : s.Ranged) :
    (imageOut o s).Ranged := by
  obtain ⟨hw, hh⟩ := sizeWf_iff.1 ho
  exact ⟨hs.sequencing, hs.image, fun _ => ⟨hw, hh, Nat.mul_pos hw.1 hh.1⟩, hs.vram, hs.mem⟩

theorem reportAborted_canonical {s : State} (hs : s.vram.Canonical) : (reportAborted s).vram.Canonical := by
  unfold reportAborted
  split
  · exact hs.invalidate _
  · exact hs

theorem reportAborted_ranged {s : State} (hs : s.Ranged) : (reportAborted s).Ranged :=
  hs.of_control (by simp [State.control]) (reportAborted_canonical hs.vram)

theorem softReset_ranged {s : State} (hs : s.Ranged) : (softReset s).Ranged :=
  ⟨⟨hs.sequencing.1, by simp [softReset]⟩, by simp [State.imageWf, softReset], by simp [State.readWf, softReset],
    hs.vram, hs.mem⟩

theorem exec_ranged {i : Instr} (hwf : i.wf = true) {s t : State} (hs : s.Ranged) (h : exec i s = .next t) :
    t.Ranged := by
  cases exec_effect hwf h with
  | draws hc hv => exact hs.of_control hc (hv.canonical hs.vram)
  | polyline c =>
    exact locked_keeps framed_ranged framed_ranged (fun _ => polyline_ranged (polyKind_ne_imageIn i) c) hs hs
  | imageIn o ho => exact locked_keeps framed_ranged framed_ranged (fun _ => imageIn_ranged ho) hs hs
  | imageOut o ho => exact imageOut_ranged ho hs
  | info o => exact ⟨hs.sequencing, hs.image, hs.read, hs.vram, hs.mem⟩
  | reset => exact softReset_ranged (reportAborted_ranged hs)
  | abort => exact (reportAborted_ranged hs).idle 0

theorem State.Received.ranged {s t : State} (h : s.Received t) (hs : s.Ranged) : t.Ranged := by
  obtain ⟨hframe, hclosed, hseq⟩ := h
  rw [hframe] at hclosed ⊢
  exact ⟨hframe ▸ hseq hs.sequencing, fun hd => absurd hd hclosed, hs.read, hs.vram, hs.mem⟩

theorem gp0Write_ranged {w : Word} {s t : State} (hs : s.Ranged) (h : gp0Write w s = .next t) : t.Ranged := by
  cases gp0Write_effect h with
  | received _ hr => exact hr.ranged hs
  | dispatched _ hr hi he => exact exec_ranged hi (hr.ranged hs) he
  | data hd =>
    have hP : Framed fun u => u.Ranged ∧ u.dstate = .extraData := fun u t hc hv ht ⟨h1, h2⟩ =>
      ⟨framed_ranged u t hc hv ht h1, (congrArg State.dstate hc).trans h2⟩
    exact locked_keeps hP framed_ranged (fun u ⟨h1, h2⟩ => dataWord_ranged h1 h2 w) ⟨hs, hd⟩ hs

theorem gpuRead_ranged {s : State} (hs : s.Ranged) : (gpuRead s).2.Ranged := by
  rcases gpuRead_cases s with ⟨-, e⟩ | ⟨ha, e⟩ <;> rw [e]
  · exact hs
  · refine ⟨hs.sequencing, hs.image, fun hactive => ?_, hs.vram, hs.mem⟩
    obtain ⟨hw, hh, hpos⟩ := hs.read ha
    have hne : readAdvance s.rd ≠ s.rd.rw * s.rd.rh := of_decide_eq_true hactive
    have hadv := readAdvance_eq s.rd hpos.le
    exact ⟨hw, hh, show readAdvance s.rd < s.rd.rw * s.rd.rh by omega⟩

theorem kept_ranged : Kept State.Ranged where
  framed := framed_ranged
  gp0 := gp0Write_ranged
  gp1 hs h := exec_ranged (decodeGp1_wf _).1 hs h
  read := gpuRead_ranged
  mem hm hs := ⟨hs.sequencing, hs.image, hs.read, hs.vram, hm hs.mem⟩

/-- Settles O10: the part without the lock is kept by every call, also inside a DMA call; the lock is free or the sink's
again when the call returns. -/
theorem everyStepKeepsInvariant : Obligations.EveryStepKeepsInvariant := by
  intro s t hs h
  obtain ⟨hranged, hquiet⟩ := (inv_iff s).1 hs
  exact (inv_iff t).2 ⟨kept_ranged.step hranged h, step_quiet hquiet h⟩

/-! ## Power-on -/

theorem powerOn_inv {native : Memory} (now : Nat) (h : Memory.wf (some vramUnlisted) vramBytes native = true) :
    (State.powerOn native now).Inv where
  sequencing := ⟨rfl, by simp [State.powerOn]⟩
  image := by simp [State.imageWf, State.powerOn]
  read := by simp [State.readWf, State.powerOn]
  vram := h
  hidden := ⟨⟨Sparse.rising_nil, by simp [State.powerOn]⟩, ⟨Sparse.rising_nil, by simp [State.powerOn]⟩, fun _ => rfl⟩
  mem := Memory.wf_nil _ _
  lock := by simp [State.quiet, State.powerOn]

/-- After power-on no flag is set. -/
theorem powerOn_flagsAt (native : Memory) (now : Nat) (x y : Int) :
    (State.powerOn native now).vram.flagsAt x y = noFlags := rfl

/-- Settles O9: no page is cached and no flag is set, so nothing is there that could be out of date. -/
theorem powerOnHasInvariant : Obligations.PowerOnHasInvariant := by
  refine ⟨powerOn_inv 0 (Memory.wf_nil _ _), fun native now h => ⟨powerOn_inv now h, ?_, fun k => ?_⟩⟩
  · intro e he; cases he
  · rw [powerOn_flagsAt]; simp [noFlags]

end Sys2Proof.Machine
end

section
/-! A stored solid flag says of its palette what VRAM says (R338): writes spoil the flags of the palettes they meet, and
the report of the written rectangle drops exactly flags of such palettes. -/

namespace Sys2Proof.Machine

/-! ## The two palette sizes alike -/

/-- The number of entries of a palette at depth 8 or 4 (R117, R338). -/
def paletteSize (eight : Bool) : Nat := if eight then 256 else 16

/-- The stored flag for a palette size (R338). -/
def solidFlag (f : CellFlags) (eight : Bool) : Bool := if eight then f.s256 else f.s16

/-- Every stored flag is what `Solid` says of this VRAM, but for the palettes excepted. -/
def Vram.FlagsTrueBut (E : ClutSel → Nat → Prop) (v : Vram) : Prop :=
  ∀ (k : ClutSel) (eight : Bool), solidValid (v.flagsAt (clutX k) (clutY k)) eight = true →
    E k (paletteSize eight) ∨
      solidFlag (v.flagsAt (clutX k) (clutY k)) eight = paletteSolid v k (paletteSize eight)

/-- The palettes an unfinished image-in will invalidate (R195). -/
def State.Awaiting (s : State) (k : ClutSel) (n : Nat) : Prop := s.midImage ∧ paletteMeets k n s.img.target

theorem solidCoherent_iff (s : State) : s.solidCoherent ↔ s.vram.FlagsTrueBut s.Awaiting := by
  refine ⟨fun h k eight => ?_, fun h k => ⟨h k false, h k true⟩⟩
  cases eight
  · exact (h k).1
  · exact (h k).2

theorem Vram.FlagsTrueBut.mono {E F : ClutSel → Nat → Prop} {v : Vram} (h : v.FlagsTrueBut E)
    (hEF : ∀ k n, E k n → F k n) : v.FlagsTrueBut F :=
  fun k eight hvalid => (h k eight hvalid).imp_left (hEF k _)

/-- With no flag set there is none that could be wrong. -/
theorem Vram.FlagsTrueBut.of_noFlags {E : ClutSel → Nat → Prop} {v : Vram} (h : v.flags = []) : v.FlagsTrueBut E := by
  intro k eight hvalid
  rw [show v.flagsAt (clutX k) (clutY k) = noFlags by simp [Vram.flagsAt, h]] at hvalid
  cases eight <;> cases hvalid

/-! ## Palettes and cells -/

theorem clut_bounds (k : ClutSel) : (0 ≤ clutX k ∧ clutX k < 1024) ∧ 0 ≤ clutY k ∧ clutY k < 512 := by
  have hx := k.cx.isLt
  have hy := k.cy.isLt
  unfold clutX clutY; omega

/-- Two selectors with the same first cell are one. -/
theorem clut_eq_of_cellIndex {k k' : ClutSel}
    (h : cellIndex (clutX k) (clutY k) = cellIndex (clutX k') (clutY k')) : k = k' := by
  obtain ⟨cx, cy⟩ := k
  obtain ⟨cx', cy'⟩ := k'
  have hk := clut_bounds ⟨cx, cy⟩
  have hk' := clut_bounds ⟨cx', cy'⟩
  rw [cellIndex_eq_iff] at h
  simp only [clutX, clutY] at h hk hk'
  have hx : cx = cx' := BitVec.eq_of_toNat_eq (by omega)
  have hy : cy = cy' := BitVec.eq_of_toNat_eq (by omega)
  rw [hx, hy]

theorem paletteSolid_congr {v w : Vram} {k : ClutSel} {n : Nat}
    (h : ∀ i, i < n → w.read (clutX k + i) (clutY k) = v.read (clutX k + i) (clutY k)) :
    paletteSolid w k n = paletteSolid v k n := by
  rw [Bool.eq_iff_iff]
  simp only [paletteSolid, clutEntry, List.all_eq_true, List.mem_range]
  exact forall₂_congr fun i hi => by rw [h i hi]

/-- A write inside a rectangle changes no entry of a palette that does not meet it. -/
theorem paletteSolid_write {v : Vram} {k : ClutSel} {n : Nat} {r : Rect} {x y : Int} {p : BitVec 16}
    (hr : r.has (x % 1024) (y % 512) = true) (hk : ¬ paletteMeets k n r) :
    paletteSolid (v.write x y p) k n = paletteSolid v k n := by
  refine paletteSolid_congr fun i hi => ?_
  rw [Vram.read_write, if_neg]
  intro hcell
  obtain ⟨hcol, hrow⟩ := (cellIndex_eq_iff ..).1 hcell
  obtain ⟨-, hy⟩ := clut_bounds k
  rw [← hcol, ← hrow, Int.emod_eq_of_lt hy.1 hy.2] at hr
  exact hk ⟨i, hi, hr⟩

/-- `Invalidate` finds every palette with an entry in its rectangle: walking right from a first cell outside, the first
column inside is the rectangle's own first (R338, C3 of spec/90_conflicts.md). -/
theorem paletteReaches_of_has {r : Rect} (hr : r.insideVram) {x y : Int} {n i : Nat} (hx : 0 ≤ x ∧ x < 1024) (hi : i < n)
    (h : r.has ((x + i) % 1024) y = true) : paletteReaches n r x = true := by
  obtain ⟨⟨hx0, hx1⟩, -⟩ := hr
  obtain ⟨⟨h0, h1⟩, -⟩ := Rect.has_iff.1 h
  simp only [paletteReaches, Bool.or_eq_true, Bool.and_eq_true, decide_eq_true_eq]
  omega

/-! ## What keeps the flags true -/

section
variable {E : ClutSel → Nat → Prop} {v w : Vram} {r : Rect}

theorem solidFlags_valid (f : CellFlags) (eight solid e : Bool) :
    (e = eight → solidFlag (solidFlags f eight solid) e = solid) ∧
      (e ≠ eight → solidValid (solidFlags f eight solid) e = solidValid f e ∧
        solidFlag (solidFlags f eight solid) e = solidFlag f e) := by
  cases eight <;> cases e <;> simp [solidFlag, solidFlags, solidValid]

/-- The flag a draw resolves is what `Solid` says (R338). -/
theorem Vram.FlagsTrueBut.resolveSolid (h : v.FlagsTrueBut E) (k : ClutSel) (eight : Bool) :
    (resolveSolid k eight v).FlagsTrueBut E := by
  unfold Machine.resolveSolid
  split
  · exact h
  · intro k' e hvalid
    have hsolid : ∀ f, paletteSolid (v.setFlags (clutX k) (clutY k) f) k' (paletteSize e) =
        paletteSolid v k' (paletteSize e) := fun f => paletteSolid_congr fun i _ => by simp
    rw [hsolid]
    rw [Vram.flagsAt_setFlags] at hvalid ⊢
    split at hvalid
    · next hcell =>
      rw [if_pos hcell]
      obtain rfl := clut_eq_of_cellIndex hcell
      have hf := solidFlags_valid (v.flagsAt (clutX k') (clutY k')) eight
        (paletteSolid v k' (if eight then 256 else 16)) e
      by_cases he : e = eight
      · subst he; exact .inr (hf.1 rfl)
      · obtain ⟨hval, hflag⟩ := hf.2 he
        rw [hval] at hvalid
        rw [hflag]
        exact h k' e hvalid
    · next hcell =>
      rw [if_neg hcell]
      exact h k' e hvalid

theorem Vram.FlagsTrueBut.write (h : v.FlagsTrueBut fun k n => E k n ∨ paletteMeets k n r) {x y : Int}
    (p : BitVec 16) (hr : r.has (x % 1024) (y % 512) = true) :
    (v.write x y p).FlagsTrueBut fun k n => E k n ∨ paletteMeets k n r := by
  intro k e hvalid
  by_cases hmeets : paletteMeets k (paletteSize e) r
  · exact .inl (.inr hmeets)
  · rw [paletteSolid_write hr hmeets]
    rw [Vram.flagsAt_write] at hvalid ⊢
    split at hvalid
    · cases e <;> cases hvalid
    · next hcell => rw [if_neg hcell]; exact h k e hvalid

theorem setTag_flagsAt (v : Vram) (x y x' y' : Int) (t : BitVec 2) :
    (v.setTag x y t).flagsAt x' y' = v.flagsAt x' y' := by
  unfold Vram.setTag; split <;> (try split) <;> rfl

theorem Vram.FlagsTrueBut.setTag (h : v.FlagsTrueBut E) (x y : Int) (t : BitVec 2) :
    (v.setTag x y t).FlagsTrueBut E := by
  intro k e hvalid
  rw [setTag_flagsAt] at hvalid ⊢
  rw [paletteSolid_congr (v := v) fun i _ => by simp]
  exact h k e hvalid

/-- Writes inside a rectangle leave the flags true but for the palettes that meet it. -/
theorem Vram.WritesIn.flagsTrue (hw : v.WritesIn r w) (h : v.FlagsTrueBut fun k n => E k n ∨ paletteMeets k n r) :
    w.FlagsTrueBut fun k n => E k n ∨ paletteMeets k n r := by
  induction hw with
  | refl => exact h
  | write x y p _ hr ih => exact ih.write p hr
  | tag x y t _ ih => exact ih.setTag x y t

/-- A flag that `Invalidate` leaves valid is that of a palette outside the rectangle, as it was. -/
theorem invalidFlags_valid (hr : r.insideVram) {k : ClutSel} {f : CellFlags} {e : Bool}
    (h : solidValid (invalidFlags r (cellIndex (clutX k) (clutY k)) f) e = true) :
    ¬ paletteMeets k (paletteSize e) r ∧ solidValid f e = true ∧
      solidFlag (invalidFlags r (cellIndex (clutX k) (clutY k)) f) e = solidFlag f e := by
  obtain ⟨hx, hy⟩ := clut_bounds k
  have hindex : cellIndex (clutX k) (clutY k) = 1024 * (clutY k).toNat + (clutX k).toNat := by
    unfold cellIndex; rw [Int.emod_eq_of_lt hx.1 hx.2, Int.emod_eq_of_lt hy.1 hy.2]
  have hcol : ((cellIndex (clutX k) (clutY k) % 1024 : Nat) : Int) = clutX k := by omega
  have hrow : ((cellIndex (clutX k) (clutY k) / 1024 : Nat) : Int) = clutY k := by omega
  unfold invalidFlags at h ⊢
  rw [hcol, hrow] at h ⊢
  split at h
  · next hin =>
    rw [if_pos hin]
    refine ⟨fun ⟨i, hi, hhas⟩ => ?_, ?_, ?_⟩
    · have hreach := paletteReaches_of_has hr hx hi hhas
      cases e <;> simp_all [solidValid, paletteSize]
    · cases e <;> simp_all [solidValid]
    · cases e <;> rfl
  · next hout =>
    rw [if_neg hout]
    refine ⟨fun ⟨i, hi, hhas⟩ => hout ?_, h, rfl⟩
    obtain ⟨-, hyr⟩ := Rect.has_iff.1 hhas
    simpa using hyr

/-- The report of a rectangle drops the flags its writes have spoilt. -/
theorem Vram.FlagsTrueBut.invalidate (h : v.FlagsTrueBut fun k n => E k n ∨ paletteMeets k n r) (hv : v.Canonical)
    (hr : r.insideVram) : (v.invalidate r).FlagsTrueBut E := by
  intro k e hvalid
  rw [Vram.flagsAt_invalidate hv] at hvalid ⊢
  obtain ⟨hmeets, hold, hflag⟩ := invalidFlags_valid hr hvalid
  have hsame : paletteSolid (v.invalidate r) k (paletteSize e) = paletteSolid v k (paletteSize e) :=
    paletteSolid_congr fun _ _ => rfl
  rw [hflag, hsame]
  exact (h k e hold).imp_left fun hE => hE.resolve_right hmeets

theorem Vram.Redraws.flagsTrue (hw : v.Redraws w) (hv : v.Canonical) (h : v.FlagsTrueBut E) : w.FlagsTrueBut E := by
  induction hw with
  | refl => exact h
  | resolve k e _ ih => exact ih.resolveSolid k e
  | reported r hr hw hwrites ih =>
    have hspoilt := hwrites.flagsTrue (r := r) (ih.mono fun _ _ => Or.inl)
    exact hspoilt.invalidate (hwrites.canonical (hw.canonical hv)) hr

end

/-! ## Instructions -/

/-- What every call keeps together. -/
def State.RangedSolid (s : State) : Prop := s.Ranged ∧ s.solidCoherent

theorem awaiting_of_control {s t : State} (hc : t.control = s.control) : t.Awaiting = s.Awaiting := by
  show t.control.Awaiting = s.control.Awaiting
  rw [hc]

theorem not_awaiting {s : State} (h : ¬ s.midImage) (k : ClutSel) (n : Nat) : ¬ s.Awaiting k n := fun hw => h hw.1

theorem solidCoherent_of_redraws {s t : State} (hs : s.RangedSolid) (hc : t.control = s.control)
    (hv : s.vram.Redraws t.vram) : t.solidCoherent := by
  rw [solidCoherent_iff, awaiting_of_control hc]
  exact hv.flagsTrue hs.1.vram ((solidCoherent_iff s).1 hs.2)

theorem framed_solid : Framed State.solidCoherent := fun s t hc hv _ hs => by
  rw [solidCoherent_iff, awaiting_of_control hc, hv]
  exact (solidCoherent_iff s).1 hs

/-- Outside an image-in no palette is excepted, so only VRAM matters. -/
theorem solidCoherent_of_vram {s t : State} (hm : ¬ s.midImage) (hs : s.solidCoherent) (hv : t.vram = s.vram) :
    t.solidCoherent := by
  rw [solidCoherent_iff, hv]
  exact ((solidCoherent_iff s).1 hs).mono fun k n hw => absurd hw (not_awaiting hm k n)

theorem reportAborted_flagsTrue {s : State} (hs : s.RangedSolid) :
    (reportAborted s).vram.FlagsTrueBut fun _ _ => False := by
  have h := (solidCoherent_iff s).1 hs.2
  unfold reportAborted
  split
  · exact Vram.FlagsTrueBut.invalidate (h.mono fun _ _ hw => .inr hw.2) hs.1.vram (targetRect_insideVram ..)
  · next hm => exact h.mono fun k n hw => not_awaiting hm k n hw

/-- Nothing is excepted where nothing need be. -/
theorem solidCoherent_of_flagsTrue {s : State} (h : s.vram.FlagsTrueBut fun _ _ => False) : s.solidCoherent :=
  (solidCoherent_iff s).2 (h.mono fun _ _ => False.elim)

theorem imageIn_solid (o : Xfer) {s : State} (hm : ¬ s.midImage) (hs : s.solidCoherent) :
    (imageIn o s).solidCoherent := by
  rw [solidCoherent_iff, show (imageIn o s).vram = _ from formatSwitch_vram_eq o.w s]
  unfold Vram.convertTo
  split
  · exact ((solidCoherent_iff s).1 hs).mono fun k n hw => absurd hw (not_awaiting hm k n)
  · exact .of_noFlags rfl

theorem polyline_solid (kind : XKind) (c : LineCmd) {s : State} (hm : ¬ s.midImage) (hs : s.RangedSolid) :
    (polyline kind c s).solidCoherent := by
  have h : s.vram.FlagsTrueBut fun _ _ => False :=
    ((solidCoherent_iff s).1 hs.2).mono fun k n hw => not_awaiting hm k n hw
  have hdiag : (if c.semi then raiseDiag .semiPolyline s else s).vram = s.vram := by split <;> simp
  have hseg := (segment_redrawsTo (vertex s.ofs c.v0) (vertex s.ofs c.v1) c.c0 c.c1 false
    (if c.semi then raiseDiag .semiPolyline s else s)).vram
  rw [hdiag] at hseg
  exact solidCoherent_of_flagsTrue (hseg.flagsTrue hs.1.vram h)

theorem framed_rangedSolid : Framed State.RangedSolid := fun s t hc hv ht ⟨h1, h2⟩ =>
  ⟨framed_ranged s t hc hv ht h1, framed_solid s t hc hv ht h2⟩

theorem midImage_of_control {s t : State} (hc : t.control = s.control) : t.midImage ↔ s.midImage := by
  show t.control.midImage ↔ s.control.midImage
  rw [hc]

theorem framed_rangedSolid_idle : Framed fun u => ¬ u.midImage ∧ u.RangedSolid := fun s t hc hv ht ⟨h1, h2⟩ =>
  ⟨fun hm => h1 ((midImage_of_control hc).1 hm), framed_rangedSolid s t hc hv ht h2⟩

/-- An instruction that comes while no image-in is under way, or that writes no VRAM, keeps the flags true. -/
theorem exec_solid {i : Instr} (hwf : i.wf = true) {s t : State} (hm : ¬ s.midImage ∨ writesVram i = false)
    (hs : s.RangedSolid) (h : exec i s = .next t) : t.solidCoherent := by
  have hidle : writesVram i = true → ¬ s.midImage := fun hw => hm.resolve_right (by simp [hw])
  cases exec_effect hwf h with
  | draws hc hv => exact solidCoherent_of_redraws hs hc hv
  | polyline c hw =>
    exact locked_keeps framed_rangedSolid_idle framed_solid (fun u ⟨hm', hs'⟩ => polyline_solid _ c hm' hs')
      ⟨hidle hw, hs⟩ hs.2
  | imageIn o _ hw =>
    exact locked_keeps framed_rangedSolid_idle framed_solid (fun u ⟨hm', hs'⟩ => imageIn_solid o hm' hs'.2)
      ⟨hidle hw, hs⟩ hs.2
  | imageOut o => exact hs.2
  | info o => exact hs.2
  | reset => exact solidCoherent_of_flagsTrue (reportAborted_flagsTrue hs)
  | abort => exact solidCoherent_of_flagsTrue (reportAborted_flagsTrue hs)

/-! ## Words -/

theorem imageInWord_solid {s : State} (hs : s.RangedSolid) (hm : s.midImage) (w : Word) :
    (imageInWord w s).solidCoherent := by
  have hspoilt : s.vram.FlagsTrueBut fun k n => False ∨ paletteMeets k n s.img.target :=
    ((solidCoherent_iff s).1 hs.2).mono fun _ _ hw => .inr hw.2
  obtain ⟨v, hv, ⟨-, e⟩ | ⟨-, e⟩⟩ := imageInWord_cases hs.1.image hm w <;> rw [e]
  · exact solidCoherent_of_flagsTrue
      ((hv.flagsTrue hspoilt).invalidate (hv.canonical hs.1.vram) (targetRect_insideVram ..))
  · exact (solidCoherent_iff _).2 ((hv.flagsTrue hspoilt).mono fun _ _ hw => ⟨hm, hw.resolve_left id⟩)

theorem dataWord_solid {s : State} (hs : s.RangedSolid) (hd : s.dstate = .extraData) (w : Word) :
    (dataWord w s).solidCoherent := by
  unfold dataWord
  split
  · next hx => exact imageInWord_solid hs ⟨hd, hx⟩ w
  · next hx =>
    have hm : ¬ s.midImage := fun h => by cases hx.symm.trans h.2
    unfold polyFlatWord
    split
    · exact solidCoherent_of_vram hm hs.2 rfl
    · have hseg := segment_redrawsTo s.pline.plast (vertex s.ofs (.ofWord w)) s.pline.pcol s.pline.pcol false s
      exact solidCoherent_of_redraws hs hseg.control hseg.vram
  · next hx =>
    have hm : ¬ s.midImage := fun h => by cases hx.symm.trans h.2
    unfold polyGouraudWord
    split
    · split
      · exact solidCoherent_of_vram hm hs.2 rfl
      · exact solidCoherent_of_vram hm hs.2 rfl
    · have hseg := segment_redrawsTo s.pline.plast (vertex s.ofs (.ofWord w)) s.pline.pcol s.pline.pnext false s
      exact solidCoherent_of_redraws hs hseg.control hseg.vram

theorem State.Received.solid {s t : State} (h : s.Received t) (hd : s.dstate ≠ .extraData) (hs : s.solidCoherent) :
    ¬ t.midImage ∧ t.solidCoherent :=
  ⟨fun hm => h.closed hm.1, solidCoherent_of_vram (fun hm => hd hm.1) hs (by rw [h.frame])⟩

theorem gp0Write_solid {w : Word} {s t : State} (hs : s.RangedSolid) (h : gp0Write w s = .next t) :
    t.solidCoherent := by
  cases gp0Write_effect h with
  | received hd hr => exact (hr.solid hd hs.2).2
  | dispatched hd hr hi he =>
    obtain ⟨hm, hsolid⟩ := hr.solid hd hs.2
    exact exec_solid hi (.inl hm) ⟨hr.ranged hs.1, hsolid⟩ he
  | data hd =>
    have hP : Framed fun u => u.RangedSolid ∧ u.dstate = .extraData := fun u t hc hv ht ⟨h1, h2⟩ =>
      ⟨framed_rangedSolid u t hc hv ht h1, (congrArg State.dstate hc).trans h2⟩
    exact locked_keeps hP framed_solid (fun u ⟨h1, h2⟩ => dataWord_solid h1 h2 w) ⟨hs, hd⟩ hs.2

theorem gpuRead_solid {s : State} (hs : s.solidCoherent) : (gpuRead s).2.solidCoherent := by
  rcases gpuRead_cases s with ⟨-, e⟩ | ⟨-, e⟩ <;> rw [e] <;> exact hs

theorem kept_rangedSolid : Kept State.RangedSolid where
  framed := framed_rangedSolid
  gp0 hs h := ⟨kept_ranged.gp0 hs.1 h, gp0Write_solid hs h⟩
  gp1 hs h := ⟨kept_ranged.gp1 hs.1 h, exec_solid (decodeGp1_wf _).1 (.inr (decodeGp1_wf _).2) hs h⟩
  read hs := ⟨kept_ranged.read hs.1, gpuRead_solid hs.2⟩
  mem hm hs := ⟨kept_ranged.mem hm hs.1, hs.2⟩

/-- Settles O48: together with the invariant, which says that the flags are listed in order and that an open image-in
goes on to its report, the flags are kept by every call. -/
theorem solidFlagsStayTrue : Obligations.SolidFlagsStayTrue := by
  intro s t hs hsolid h
  exact (kept_rangedSolid.step ⟨((inv_iff s).1 hs).1, hsolid⟩ h).2

end Sys2Proof.Machine
end

section
/-! The drawing registers (R21 to R26): who writes them, the texture window's map, and what G1.RESET leaves. -/

namespace Sys2Proof.Machine

/-! ## Who writes the drawing registers (R26) -/

/-- `TW`, `CLIP`, `OFS` and `MSK`: the drawing registers but `DM`. -/
def State.window (s : State) : TexWindow × ClipRect × DrawOffset × MaskMode := (s.tw, s.clip, s.ofs, s.msk)

/-- All five drawing registers. -/
def State.drawing (s : State) : DrawMode × TexWindow × ClipRect × DrawOffset × MaskMode := (s.dm, s.window)

/-- The bracket of R90 writes no drawing register itself, and a held call none at all. -/
theorem locked_drawing {P : DrawMode × TexWindow × ClipRect × DrawOffset × MaskMode → Prop} {f : State → State}
    {s : State} (hf : ∀ u : State, u.drawing = s.drawing → P (f u).drawing) (hs : P s.drawing) :
    P (locked f s).drawing := by
  rcases locked_cases f s with ⟨-, e⟩ | ⟨-, e⟩ | ⟨-, e⟩ <;> rw [e]
  · exact hf (acquireLock s) rfl
  · exact hf s rfl
  · exact hs

theorem locked_keeps_drawing {f : State → State} (hf : ∀ u, (f u).drawing = u.drawing) (s : State) :
    (locked f s).drawing = s.drawing :=
  locked_drawing (P := fun d => d = s.drawing) (fun u hu => (hf u).trans hu) rfl

theorem fill_drawing (o : Fill) (s : State) : (fill o s).drawing = s.drawing := by
  unfold fill; split <;> rfl

theorem vcopy_drawing (o : Copy) (s : State) : (vcopy o s).drawing = s.drawing := rfl

theorem rectangle_drawing (c : RectCmd) (s : State) : (rectangle c s).drawing = s.drawing := by
  unfold rectangle RectCmd.draw; split <;> simp [State.drawing, State.window]

theorem segment_drawing (p q : Int × Int) (c d : Rgb) (semi : Bool) (s : State) :
    (segment p q c d semi s).drawing = s.drawing := by simp [State.drawing, State.window]

theorem polyline_drawing (kind : XKind) (c : LineCmd) (s : State) : (polyline kind c s).drawing = s.drawing := by
  unfold polyline; split <;> simp [State.drawing, State.window]

theorem imageIn_drawing (o : Xfer) (s : State) : (imageIn o s).drawing = s.drawing := by
  simp [imageIn, State.drawing, State.window]

theorem reportAborted_drawing (s : State) : (reportAborted s).drawing = s.drawing := by
  simp [State.drawing, State.window]

theorem decideRefresh_drawing (s : State) : (decideRefresh s).drawing = s.drawing := by
  unfold decideRefresh decideWith; split <;> rfl

/-- A polygon writes `DM` exactly as its page attribute says, if it has one (R224). -/
theorem polygon_drawing (c : PolyCmd) (s : State) : (polygon c s).drawing = ((c.writeMode s).dm, s.window) := by
  unfold polygon PolyCmd.draw; split <;> simp [State.drawing, State.window]

/-- `DM` after a polygon command: written by the page attribute of a textured one, or kept. -/
def polygonMode (c : PolyCmd) (s : State) (d : DrawMode) : Prop :=
  d = s.dm ∨ ∃ k a, c.tex = some (k, a) ∧ d = s.dm.withPage a

theorem locked_polygon_drawing (c : PolyCmd) (s : State) :
    (locked (polygon c) s).window = s.window ∧ polygonMode c s (locked (polygon c) s).dm := by
  refine locked_drawing (P := fun d => d.2 = s.window ∧ polygonMode c s d.1) (fun u hu => ?_) ⟨rfl, .inl rfl⟩
  obtain ⟨hdm, hwindow⟩ := Prod.mk.inj hu
  rw [polygon_drawing]
  refine ⟨hwindow, ?_⟩
  unfold polygonMode PolyCmd.writeMode
  cases htex : c.tex with
  | none => exact .inl hdm
  | some ka => exact .inr ⟨ka.1, ka.2, rfl, by rw [← hdm]⟩

/-- What O18 says of an instruction that takes `s` to `t`. -/
def DrawingFrame (i : Instr) (s t : State) : Prop :=
  ((∀ o, i ≠ .settw o) → t.tw = s.tw) ∧
  ((∀ o, i ≠ .setclip1 o ∧ i ≠ .setclip2 o) → t.clip = s.clip) ∧
  ((∀ o, i ≠ .setofs o) → t.ofs = s.ofs) ∧
  ((∀ o, i ≠ .setmask o) → t.msk = s.msk) ∧
  ((∀ o, i ≠ .setmode o) → (∀ c, polygonOf i = some c → c.tex = none) → t.dm = s.dm) ∧
  ∀ c k a, polygonOf i = some c → c.tex = some (k, a) → t.dm = s.dm ∨ t.dm = s.dm.withPage a

theorem drawingFrame_of_drawing (i : Instr) {s t : State} (h : t.drawing = s.drawing) : DrawingFrame i s t := by
  simp only [State.drawing, State.window, Prod.mk.injEq] at h
  obtain ⟨hdm, htw, hclip, hofs, hmsk⟩ := h
  exact ⟨fun _ => htw, fun _ => hclip, fun _ => hofs, fun _ => hmsk, fun _ _ => hdm, fun _ _ _ _ _ => .inl hdm⟩

theorem drawingFrame_polygon {i : Instr} {c : PolyCmd} (hc : polygonOf i = some c) (s : State) :
    DrawingFrame i s (locked (polygon c) s) := by
  obtain ⟨hwindow, hmode⟩ := locked_polygon_drawing c s
  simp only [State.window, Prod.mk.injEq] at hwindow
  obtain ⟨htw, hclip, hofs, hmsk⟩ := hwindow
  refine ⟨fun _ => htw, fun _ => hclip, fun _ => hofs, fun _ => hmsk, fun _ hnone => ?_, fun c' k a hc' htex => ?_⟩
  · rcases hmode with hdm | ⟨k, a, htex, -⟩
    · exact hdm
    · rw [hnone c hc] at htex; cases htex
  · obtain rfl : c = c' := Option.some.inj (hc.symm.trans hc')
    rcases hmode with hdm | ⟨k', a', htex', hdm⟩
    · exact .inl hdm
    · obtain ⟨-, rfl⟩ := Prod.mk.inj (Option.some.inj (htex.symm.trans htex'))
      exact .inr hdm

theorem exec_drawingFrame {i : Instr} (hi : i ≠ .g1Reset) {s t : State} (h : exec i s = .next t) :
    DrawingFrame i s t := by
  have is : ∀ {u : State}, exec i s = .next u → DrawingFrame i s u → DrawingFrame i s t :=
    fun he hu => of_exec_eq h he hu
  have same : ∀ {u : State}, exec i s = .next u → u.drawing = s.drawing → DrawingFrame i s t :=
    fun he hu => is he (drawingFrame_of_drawing i hu)
  cases execForm i with
  | keeps _ _ he => exact same (he s) rfl
  | flush e => subst e; exact same rfl rfl
  | fill o e => subst e; exact same rfl (locked_keeps_drawing (fill_drawing o) s)
  | polygon c hc _ he => exact is (he s) (drawingFrame_polygon hc s)
  | rectangle c _ _ he => exact same (he s) (locked_keeps_drawing (rectangle_drawing c) s)
  | line c _ _ _ he => exact same (he s) (locked_keeps_drawing (fun u => segment_drawing _ _ _ _ _ u) s)
  | polyline c _ _ _ he => exact same (he s) (locked_keeps_drawing (polyline_drawing _ c) s)
  | copy o _ _ he => exact same (he s) (locked_keeps_drawing (vcopy_drawing o) s)
  | imageIn o _ _ _ he => exact same (he s) (locked_keeps_drawing (imageIn_drawing o) s)
  | imageOut o _ _ _ he => exact same (he s) rfl
  | g1Reset e => exact absurd e hi
  | g1Abort e => subst e; exact same rfl (reportAborted_drawing s)
  | g1Origin o e => subst e; exact same rfl (decideRefresh_drawing _)
  | info o _ _ he => exact same (he s) rfl
  | g1Dispen o e | g1Dmadir o e | g1Hrange o e | g1Vrange o e | g1Mode o e => subst e; exact same rfl rfl
  | settw o e =>
    subst e
    exact is rfl ⟨fun hne => absurd rfl (hne o), fun _ => rfl, fun _ => rfl, fun _ => rfl, fun _ _ => rfl,
      fun _ _ _ _ _ => .inl rfl⟩
  | setclip1 o e =>
    subst e
    exact is rfl ⟨fun _ => rfl, fun hne => absurd rfl (hne o).1, fun _ => rfl, fun _ => rfl, fun _ _ => rfl,
      fun _ _ _ _ _ => .inl rfl⟩
  | setclip2 o e =>
    subst e
    exact is rfl ⟨fun _ => rfl, fun hne => absurd rfl (hne o).2, fun _ => rfl, fun _ => rfl, fun _ _ => rfl,
      fun _ _ _ _ _ => .inl rfl⟩
  | setofs o e =>
    subst e
    exact is rfl ⟨fun _ => rfl, fun _ => rfl, fun hne => absurd rfl (hne o), fun _ => rfl, fun _ _ => rfl,
      fun _ _ _ _ _ => .inl rfl⟩
  | setmask o e =>
    subst e
    exact is rfl ⟨fun _ => rfl, fun _ => rfl, fun _ => rfl, fun hne => absurd rfl (hne o), fun _ _ => rfl,
      fun _ _ _ _ _ => .inl rfl⟩
  | setmode o e =>
    subst e
    exact is rfl ⟨fun _ => rfl, fun _ => rfl, fun _ => rfl, fun _ => rfl, fun hne _ => absurd rfl (hne o),
      fun c _ _ hc _ => by cases (show none = some c from hc)⟩

/-- Settles O18: by the form of the instruction, since all but the polygons and E1 to E6 keep all five registers. -/
theorem drawingRegistersWrittenByTheirCommands : Obligations.DrawingRegistersWrittenByTheirCommands :=
  fun _ _ _ hi h => exec_drawingFrame hi h

/-! ## The texture window (R22, R303) -/

theorem windowEntry_zero (o i : BitVec 5) : windowEntry 0#5 o i = i := by
  rw [windowEntry, BitVec.not_zero, BitVec.and_allOnes, BitVec.and_zero, BitVec.or_zero]

theorem TexWindow.enabled_iff (t : TexWindow) : t.enabled = true ↔ t.mx ≠ 0#5 ∨ t.my ≠ 0#5 := by
  simp [TexWindow.enabled]

/-- With the window disabled both tables are identities (R22). -/
theorem TexWindow.tables_of_disabled {t : TexWindow} (h : t.enabled = false) (i : BitVec 5) :
    t.twu i = i ∧ t.twv i = i := by
  have hoff := (TexWindow.enabled_iff t).not.1 (by simp [h])
  push Not at hoff
  obtain ⟨hx, hy⟩ := hoff
  exact ⟨by rw [TexWindow.twu, hx, windowEntry_zero], by rw [TexWindow.twv, hy, windowEntry_zero]⟩

theorem coord_split (c : BitVec 8) : (c.extractLsb' 3 5 ++ c.extractLsb' 0 3 : BitVec 8) = c := by
  apply BitVec.eq_of_getLsbD_eq
  intro j hj
  rw [BitVec.getLsbD_append]
  split
  · next h => simp [h]
  · next h =>
    have hj' : j - 3 < 5 := by omega
    simp [hj', show 3 + (j - 3) = j by omega]

/-- A coordinate through a window table is the masked form of R303. -/
theorem windowCoord_eq_masked (m o : BitVec 5) (c : BitVec 8) :
    windowCoord (windowEntry m o) c = (c &&& ~~~(m ++ 0#3)) ||| ((o &&& m) ++ 0#3) := by
  apply BitVec.eq_of_getLsbD_eq
  intro j hj
  simp only [windowCoord, windowEntry, BitVec.getLsbD_append, BitVec.getLsbD_or, BitVec.getLsbD_and,
    BitVec.getLsbD_not, BitVec.getLsbD_extractLsb']
  by_cases h : j < 3
  · simp [h, hj]
  · have hj' : j - 3 < 5 := by omega
    simp [h, hj, hj', show 3 + (j - 3) = j by omega]

/-- Settles O19: bits 2:0 of a coordinate pass, bits 7:3 go through a table that is the identity where its mask is 0. -/
theorem textureWindowMap : Obligations.TextureWindowMap := by
  refine ⟨fun t i => ⟨rfl, rfl, TexWindow.enabled_iff t, fun h => TexWindow.tables_of_disabled h i⟩,
    fun t u v => ⟨rfl, ?_, fun h => ?_⟩⟩
  · exact Prod.ext (windowCoord_eq_masked t.mx t.ox u) (windowCoord_eq_masked t.my t.oy v)
  · obtain ⟨hu, -⟩ := TexWindow.tables_of_disabled h (u.extractLsb' 3 5)
    obtain ⟨-, hv⟩ := TexWindow.tables_of_disabled h (v.extractLsb' 3 5)
    rw [TexWindow.map, windowCoord, windowCoord, hu, hv, coord_split, coord_split]

/-! ## G1.RESET (R351) -/

theorem reportAborted_cases (s : State) :
    (s.midImage ∧ reportAborted s = report s.img.target s) ∨ (¬ s.midImage ∧ reportAborted s = s) := by
  unfold reportAborted
  split
  · next h => exact .inl ⟨h, rfl⟩
  · next h => exact .inr ⟨h, rfl⟩

/-- `GPUSTAT` of reset registers: the constant of R360, and the field parity, which a reset keeps. -/
theorem softReset_gpuStat (s : State) : (softReset s).gpuStat = 0x1C802000#32 ||| (bit s.field ++ 0#31) := by
  unfold State.gpuStat
  simp only [softReset]
  cases s.field <;> decide

/-- Settles O49: the report first where an image-in is under way, then the registers of `softReset`. -/
theorem softResetRewritesRegisters : Obligations.SoftResetRewritesRegisters := by
  intro s
  have hfield : (reportAborted s).field = s.field := reportAborted_field s
  have hstat := softReset_gpuStat (reportAborted s)
  rw [hfield] at hstat
  refine ⟨_, rfl, ?_, ?_, ?_, ?_, hstat⟩
  · rw [reportAborted_eq s]; rfl
  · intro hm
    obtain ⟨-, e⟩ := (reportAborted_cases s).resolve_right fun h => h.1 hm
    rw [e]; exact ⟨rfl, rfl⟩
  · intro hm
    obtain ⟨-, e⟩ := (reportAborted_cases s).resolve_left fun h => hm h.1
    rw [e]; exact ⟨rfl, rfl⟩
  · rcases reportAborted_cases s with ⟨-, e⟩ | ⟨-, e⟩ <;> rw [e] <;> rfl

end Sys2Proof.Machine
end

section
/-! A cached page decodes as VRAM does now (R94, R332): writes spoil the pages with a cell in their rectangle, the report
of the rectangle drops exactly those, and a page is decoded from VRAM as it is. -/

namespace Sys2Proof.Machine

/-! ## Pages and cells -/

/-- The entry as a decode of this native view would make it. -/
def TpcEntry.redecoded (e : TpcEntry) (m : Memory) : TpcEntry := { e with image := m }

/-- Every page decodes as this native view does, but for the pages excepted. -/
def PagesTrueBut (E : TpcEntry → Prop) (m : Memory) (pages : List TpcEntry) : Prop :=
  ∀ e ∈ pages, E e ∨ ∀ u v : BitVec 8, e.idx u v = (e.redecoded m).idx u v

/-- The pages an unfinished image-in will drop (R195). -/
def State.Stale (s : State) (e : TpcEntry) : Prop := s.midImage ∧ footprintMeets e s.img.target = true

theorem pagesCoherent_iff (s : State) : s.pagesCoherent ↔ PagesTrueBut s.Stale s.vram.native s.tpc := Iff.rfl

/-- Two rectangles with a cell in common meet (R11). -/
theorem Rect.meets_of_has {a b : Rect} {x y : Int} (ha : a.has x y = true) (hb : b.has x y = true) :
    a.meets b = true := by
  have nonempty : ∀ {r : Rect}, r.has x y = true → r.isEmpty = false := fun h => by
    by_contra he
    rw [Rect.has_of_isEmpty (by simpa using he)] at h
    cases h
  rw [Rect.meets, nonempty ha, nonempty hb]
  rw [Rect.has_iff] at ha hb
  simp only [Bool.not_false, Bool.true_and, Bool.and_eq_true, decide_eq_true_eq]
  omega

/-- A cell of an entry's page in the rectangle makes the footprint meet it, also where its columns wrap (R330, R333). -/
theorem footprintMeets_of_has {e : TpcEntry} {r : Rect} {x y : Int}
    (hx : pageX (e.page.extractLsb' 0 4) ≤ x ∧ x < pageX (e.page.extractLsb' 0 4) + pageWidth e.eight)
    (hy : pageY (e.page.extractLsb' 4 1) ≤ y ∧ y ≤ pageY (e.page.extractLsb' 4 1) + 255)
    (h : r.has (x % 1024) (y % 512) = true) : footprintMeets e r = true := by
  have hp := (e.page.extractLsb' 0 4).isLt
  have hq := (e.page.extractLsb' 4 1).isLt
  have hw : pageWidth e.eight ≤ 128 := by unfold pageWidth; split <;> decide
  unfold pageX at hx
  unfold pageY at hy
  rw [footprintMeets, Bool.or_eq_true]
  rcases lt_or_ge x 1024 with hlt | hge
  · refine .inl (Rect.meets_of_has h (Rect.has_iff.2 ?_))
    simp only [pageX, pageY]; omega
  · refine .inr (Rect.meets_of_has h (Rect.has_iff.2 ?_))
    simp only [pageX, pageY]; omega

/-- The index of a texel depends on one cell of its page only (R304, R330). -/
theorem idx_congr {e : TpcEntry} {m m' : Memory}
    (h : ∀ x y : Int, pageX (e.page.extractLsb' 0 4) ≤ x → x < pageX (e.page.extractLsb' 0 4) + pageWidth e.eight →
      pageY (e.page.extractLsb' 4 1) ≤ y → y ≤ pageY (e.page.extractLsb' 4 1) + 255 → cellOf m' x y = cellOf m x y)
    (u v : BitVec 8) : (e.redecoded m').idx u v = (e.redecoded m).idx u v := by
  have hu := u.isLt
  have hv := v.isLt
  unfold pageWidth at h
  cases he : e.eight <;> simp only [he, TpcEntry.redecoded, TpcEntry.idx, index8, index4] at h ⊢ <;>
    simp only [Bool.false_eq_true, if_true, if_false] at h ⊢
  · rw [h _ _ (by omega) (by omega) (by omega) (by omega)]
  · rw [h _ _ (by omega) (by omega) (by omega) (by omega)]

/-! ## What keeps the pages true -/

section
variable {E F : TpcEntry → Prop} {m : Memory} {pages : List TpcEntry} {r : Rect}

theorem PagesTrueBut.mono (h : PagesTrueBut E m pages) (hEF : ∀ e, E e → F e) : PagesTrueBut F m pages :=
  fun e he => (h e he).imp_left (hEF e)

theorem pagesTrueBut_nil : PagesTrueBut E m [] := by intro e he; cases he

/-- A write inside a rectangle spoils at most the pages that meet it. -/
theorem PagesTrueBut.setCell (h : PagesTrueBut (fun e => E e ∨ footprintMeets e r = true) m pages)
    {x y : Int} (p : BitVec 16) (hxy : r.has (x % 1024) (y % 512) = true) :
    PagesTrueBut (fun e => E e ∨ footprintMeets e r = true) (setCell m x y p) pages := by
  intro e he
  by_cases hmeets : footprintMeets e r = true
  · exact .inl (.inr hmeets)
  · refine (h e he).imp_right fun hidx u v => (hidx u v).trans (idx_congr (fun x' y' h1 h2 h3 h4 => ?_) u v)
    rw [cellOf_setCell, if_neg]
    intro hcell
    obtain ⟨hcol, hrow⟩ := (cellIndex_eq_iff ..).1 hcell
    rw [← hcol, ← hrow] at hxy
    exact hmeets (footprintMeets_of_has ⟨h1, h2⟩ ⟨h3, h4⟩ hxy)

/-- Writes inside a rectangle leave the pages true but for those that meet it. -/
theorem Vram.WritesIn.pagesTrue {v w : Vram} (hw : v.WritesIn r w)
    (h : PagesTrueBut (fun e => E e ∨ footprintMeets e r = true) v.native pages) :
    PagesTrueBut (fun e => E e ∨ footprintMeets e r = true) w.native pages := by
  induction hw with
  | refl => exact h
  | write x y p _ hxy ih => exact ih.setCell p hxy
  | tag x y t _ ih => rwa [Vram.setTag_native]

/-- The report of a rectangle drops the pages its writes have spoilt (R333). -/
theorem PagesTrueBut.dropped (h : PagesTrueBut (fun e => E e ∨ footprintMeets e r = true) m pages) :
    PagesTrueBut E m (pages.filter fun e => !footprintMeets e r) := by
  intro e he
  obtain ⟨hmem, hkept⟩ := List.mem_filter.1 he
  exact (h e hmem).imp_left fun hE => hE.resolve_right (by simpa using hkept)

end

/-- Every cached page decodes as VRAM does now, but for the pages excepted. -/
def State.PagesTrue (E : TpcEntry → Prop) (s : State) : Prop := PagesTrueBut E s.vram.native s.tpc

section
variable {E : TpcEntry → Prop} {s : State}

/-- Writes inside a rectangle and then its report (R145). -/
theorem State.PagesTrue.reported (h : s.PagesTrue E) {r : Rect} {v : Vram}
    (hw : s.vram.WritesIn r v) : (report r { s with vram := v }).PagesTrue E :=
  (hw.pagesTrue (PagesTrueBut.mono h fun _ => Or.inl)).dropped

/-- A page is decoded from VRAM as it is (R331). -/
theorem State.PagesTrue.decodePage (h : s.PagesTrue E) (page : BitVec 5) (eight : Bool) :
    (decodePage page eight s).PagesTrue E := by
  unfold Machine.decodePage
  split
  · exact h
  · intro e he
    rcases List.mem_append.1 he with he | he
    · exact h e he
    · obtain rfl := List.mem_singleton.1 he
      exact .inr fun u v => rfl

theorem State.PagesTrue.resolveSolid (h : s.PagesTrue E) (k : ClutSel) (eight : Bool) :
    State.PagesTrue E { s with vram := resolveSolid k eight s.vram } := by
  unfold State.PagesTrue
  rwa [resolveSolid_native]

theorem State.PagesTrue.beginTexture (h : s.PagesTrue E) (k : ClutSel) : (beginTexture k s).PagesTrue E := by
  unfold Machine.beginTexture
  split
  · exact (h.resolveSolid k false).decodePage _ _
  · exact (h.resolveSolid k true).decodePage _ _
  · exact h

/-! ## The commands -/

theorem State.PagesTrue.drawPrimitive (h : s.PagesTrue E) (textured raw semi : Bool) (k : ClutSel) {ps : List Pixel}
    {r : Rect} (hr : r.insideVram) (hp : ∀ p ∈ ps, r.has p.x p.y = true) :
    (reportIfAny r (drawPrimitive textured raw semi k ps s)).PagesTrue E := by
  have hb : (if textured then Machine.beginTexture k s else s).PagesTrue E := by
    split
    · exact h.beginTexture k
    · exact h
  unfold reportIfAny Machine.drawPrimitive drawPixels
  split
  · next he =>
    rw [plotAll_of_isEmpty he _ _ hp]
    exact hb
  · exact hb.reported (plotAll_writesIn _ _ fun p hq => Rect.has_mod hr (hp p hq))

theorem State.PagesTrue.polygon (h : s.PagesTrue E) (c : PolyCmd) : (polygon c s).PagesTrue E := by
  have hmode : (c.writeMode s).PagesTrue E := by
    unfold State.PagesTrue
    rwa [writeMode_vram, writeMode_tpc]
  unfold Machine.polygon PolyCmd.draw
  rw [mod16Check_eq]
  split
  · exact hmode
  · exact hmode.drawPrimitive _ _ _ _ (Rect.inter_insideVram _ (clip_insideVram _)) fun _ hp => PolyCmd.pixels_has hp

theorem State.PagesTrue.rectangle (h : s.PagesTrue E) (c : RectCmd) : (rectangle c s).PagesTrue E := by
  unfold Machine.rectangle RectCmd.draw
  rw [mod16Check_eq]
  split
  · exact h
  · exact h.drawPrimitive _ _ _ _ (Rect.inter_insideVram _ (clip_insideVram _)) fun _ hp => RectCmd.pixels_has hp

theorem State.PagesTrue.segment (h : s.PagesTrue E) (p0 p1 : Int × Int) (c0 c1 : Rgb) (semi : Bool) :
    (segment p0 p1 c0 c1 semi s).PagesTrue E := by
  unfold Machine.segment
  split
  · next ha =>
    have hin := lineBox_insideVram ha
    exact h.reported (plotAll_writesIn _ _ fun p hp => Rect.has_mod hin (linePixels_has hp))
  · exact h

theorem State.PagesTrue.polyline (h : s.PagesTrue E) (kind : XKind) (c : LineCmd) :
    (polyline kind c s).PagesTrue E := by
  have hdiag : (if c.semi then raiseDiag .semiPolyline s else s).PagesTrue E := by
    unfold State.PagesTrue
    split
    · rwa [raiseDiag_vram, raiseDiag_tpc]
    · exact h
  exact hdiag.segment (vertex s.ofs c.v0) (vertex s.ofs c.v1) c.c0 c.c1 false

theorem fillBlock_writesIn (p : BitVec 16) (x y w h : Nat) (v : Vram) :
    v.WritesIn (targetRect x y w h) (fillBlock p x y w h v) :=
  fillBlock_induct (P := v.WritesIn _) _ _ _ _ _ _ .refl fun _ hu _ _ hi hj => hu.write _ _ _ (targetRect_has hi hj)

theorem State.PagesTrue.fill (h : s.PagesTrue E) (o : Fill) : (fill o s).PagesTrue E := by
  unfold Machine.fill
  split
  · exact h
  · exact h.reported (fillBlock_writesIn ..)

theorem State.PagesTrue.vcopy (h : s.PagesTrue E) (o : Copy) : (vcopy o s).PagesTrue E :=
  h.reported (copyBlock_writesIn ..)

/-- A format switch clears every page or changes nothing (R196, R334). -/
theorem State.PagesTrue.formatSwitch (h : s.PagesTrue E) (n : Nat) : (formatSwitch n s).PagesTrue E := by
  unfold Machine.formatSwitch
  split
  · exact h
  · exact pagesTrueBut_nil

end

theorem stale_of_control {s t : State} (hc : t.control = s.control) : t.Stale = s.Stale := by
  show t.control.Stale = s.control.Stale
  rw [hc]

theorem framed_pagesTrue (E : TpcEntry → Prop) : Framed (State.PagesTrue E) := fun s t _ hv ht hs => by
  unfold State.PagesTrue
  rwa [hv, ht]

theorem framed_pages : Framed State.pagesCoherent := fun s t hc hv ht hs => by
  rw [pagesCoherent_iff, stale_of_control hc, hv, ht]
  exact hs

/-- What keeps the pages true but for any exception, inside the bracket of R90 or not. -/
theorem locked_pagesTrue {E : TpcEntry → Prop} {f : State → State} (hf : ∀ u : State, u.PagesTrue E → (f u).PagesTrue E)
    {s : State} (hs : s.PagesTrue E) : (locked f s).PagesTrue E :=
  locked_keeps (framed_pagesTrue E) (framed_pagesTrue E) hf hs hs

/-- Nothing is excepted where nothing need be. -/
theorem pagesCoherent_of_pagesTrue {s : State} (h : s.PagesTrue fun _ => False) : s.pagesCoherent :=
  (pagesCoherent_iff s).2 (PagesTrueBut.mono h fun _ => False.elim)

theorem pagesTrue_of_not_midImage {s : State} (hm : ¬ s.midImage) (hs : s.pagesCoherent) :
    s.PagesTrue fun _ => False :=
  PagesTrueBut.mono hs fun _ hstale => hm hstale.1

/-- G1.RESET and G1.ABORT report the target of an image-in they end (R198). -/
theorem reportAborted_pagesTrue {s : State} (hs : s.pagesCoherent) : (reportAborted s).PagesTrue fun _ => False := by
  rcases reportAborted_cases s with ⟨-, e⟩ | ⟨hm, e⟩ <;> rw [e]
  · exact PagesTrueBut.dropped (PagesTrueBut.mono hs fun _ hstale => .inr hstale.2)
  · exact pagesTrue_of_not_midImage hm hs

/-! ## Instructions -/

/-- An instruction that comes while no image-in is under way, or that writes no VRAM, keeps the pages true. -/
theorem exec_pages {i : Instr} {s t : State} (hm : ¬ s.midImage ∨ writesVram i = false) (hs : s.pagesCoherent)
    (h : exec i s = .next t) : t.pagesCoherent := by
  have is : ∀ {u : State}, exec i s = .next u → u.pagesCoherent → t.pagesCoherent := fun he hu => of_exec_eq h he hu
  have frame : ∀ {u : State}, exec i s = .next u → u.control = s.control → u.vram = s.vram → u.tpc = s.tpc →
      t.pagesCoherent := fun he hc hv ht => is he (framed_pages s _ hc hv ht hs)
  have draws : ∀ {f : State → State}, writesVram i = true → exec i s = .next (locked f s) →
      (∀ u : State, u.PagesTrue (fun _ => False) → (f u).PagesTrue fun _ => False) → t.pagesCoherent :=
    fun hw he hf => is he (pagesCoherent_of_pagesTrue (locked_pagesTrue hf
      (pagesTrue_of_not_midImage (hm.resolve_right (by simp [hw])) hs)))
  cases execForm i with
  | keeps _ _ he => exact is (he s) hs
  | flush e => subst e; exact is rfl (pagesTrueBut_nil (m := s.vram.native))
  | fill o e => subst e; exact draws rfl rfl fun _ hu => hu.fill o
  | polygon c _ hw he => exact draws hw (he s) fun _ hu => hu.polygon c
  | rectangle c _ hw he => exact draws hw (he s) fun _ hu => hu.rectangle c
  | line c _ _ hw he => exact draws hw (he s) fun _ hu => hu.segment _ _ _ _ _
  | polyline c _ _ hw he => exact draws hw (he s) fun _ hu => hu.polyline _ c
  | copy o _ hw he => exact draws hw (he s) fun _ hu => hu.vcopy o
  | imageIn o _ _ hw he => exact draws hw (he s) fun _ hu => hu.formatSwitch o.w
  | imageOut o _ _ _ he => exact is (he s) hs
  | g1Reset e => subst e; exact is rfl (pagesTrueBut_nil (m := (reportAborted s).vram.native))
  | g1Abort e => subst e; exact is rfl (pagesCoherent_of_pagesTrue (reportAborted_pagesTrue hs))
  | g1Origin o e =>
    subst e; exact frame rfl (decideRefresh_control _) (decideRefresh_vram _) (decideRefresh_tpc _)
  | info o _ _ he => exact is (he s) hs
  | setmode o e | settw o e | setclip1 o e | setclip2 o e | setofs o e | setmask o e | g1Dispen o e
  | g1Dmadir o e | g1Hrange o e | g1Vrange o e | g1Mode o e => subst e; exact frame rfl rfl rfl rfl

/-! ## Words -/

theorem imageInWord_pages {s : State} (hs : s.Ranged) (hp : s.pagesCoherent) (hm : s.midImage) (w : Word) :
    (imageInWord w s).pagesCoherent := by
  have hspoilt : PagesTrueBut (fun e => False ∨ footprintMeets e s.img.target = true) s.vram.native s.tpc :=
    PagesTrueBut.mono hp fun _ hstale => .inr hstale.2
  obtain ⟨v, hv, ⟨-, e⟩ | ⟨-, e⟩⟩ := imageInWord_cases hs.image hm w <;> rw [e]
  · exact pagesCoherent_of_pagesTrue (hv.pagesTrue hspoilt).dropped
  · exact (hv.pagesTrue hspoilt).mono fun _ hstale => ⟨hm, hstale.resolve_left id⟩

theorem dataWord_pages {s : State} (hs : s.Ranged) (hp : s.pagesCoherent) (hd : s.dstate = .extraData) (w : Word) :
    (dataWord w s).pagesCoherent := by
  have outside : s.xkind ≠ .imageIn → s.PagesTrue fun _ => False :=
    fun hx => pagesTrue_of_not_midImage (fun hm => hx hm.2) hp
  unfold dataWord
  split
  · next hx => exact imageInWord_pages hs hp ⟨hd, hx⟩ w
  · next hx =>
    have htrue := outside (by simp [hx])
    refine pagesCoherent_of_pagesTrue ?_
    unfold polyFlatWord
    split
    · exact htrue
    · exact htrue.segment s.pline.plast (vertex s.ofs (.ofWord w)) s.pline.pcol s.pline.pcol false
  · next hx =>
    have htrue := outside (by simp [hx])
    refine pagesCoherent_of_pagesTrue ?_
    unfold polyGouraudWord
    split
    · split <;> exact htrue
    · exact htrue.segment s.pline.plast (vertex s.ofs (.ofWord w)) s.pline.pcol s.pline.pnext false

/-- A word taken into the buffer comes while no image-in is under way and opens none. -/
theorem State.Received.pages {s t : State} (h : s.Received t) (hd : s.dstate ≠ .extraData) (hs : s.pagesCoherent) :
    ¬ t.midImage ∧ t.pagesCoherent := by
  refine ⟨fun hm => h.closed hm.1, pagesCoherent_of_pagesTrue ?_⟩
  have hold := pagesTrue_of_not_midImage (fun hm => hd hm.1) hs
  rw [h.frame]
  exact hold

/-- What every call keeps together. -/
def State.RangedPages (s : State) : Prop := s.Ranged ∧ s.pagesCoherent

theorem framed_rangedPages : Framed State.RangedPages := fun s t hc hv ht ⟨h1, h2⟩ =>
  ⟨framed_ranged s t hc hv ht h1, framed_pages s t hc hv ht h2⟩

theorem gp0Write_pages {w : Word} {s t : State} (hs : s.RangedPages) (h : gp0Write w s = .next t) :
    t.pagesCoherent := by
  cases gp0Write_effect h with
  | received hd hr => exact (hr.pages hd hs.2).2
  | dispatched hd hr _ he =>
    obtain ⟨hm, hpages⟩ := hr.pages hd hs.2
    exact exec_pages (.inl hm) hpages he
  | data hd =>
    have hP : Framed fun u => u.RangedPages ∧ u.dstate = .extraData := fun u t hc hv ht ⟨h1, h2⟩ =>
      ⟨framed_rangedPages u t hc hv ht h1, (congrArg State.dstate hc).trans h2⟩
    exact locked_keeps hP framed_pages (fun u ⟨h1, h2⟩ => dataWord_pages h1.1 h1.2 h2 w) ⟨hs, hd⟩ hs.2

theorem gpuRead_pages {s : State} (hs : s.pagesCoherent) : (gpuRead s).2.pagesCoherent := by
  rcases gpuRead_cases s with ⟨-, e⟩ | ⟨-, e⟩ <;> rw [e] <;> exact hs

theorem kept_rangedPages : Kept State.RangedPages where
  framed := framed_rangedPages
  gp0 hs h := ⟨kept_ranged.gp0 hs.1 h, gp0Write_pages hs h⟩
  gp1 hs h := ⟨kept_ranged.gp1 hs.1 h, exec_pages (.inr (decodeGp1_wf _).2) hs.2 h⟩
  read hs := ⟨kept_ranged.read hs.1, gpuRead_pages hs.2⟩
  mem hm hs := ⟨kept_ranged.mem hm hs.1, hs.2⟩

/-- Settles O47: together with the invariant, which says that an open image-in goes on to its report, the pages are kept
true by every call. -/
theorem texturePagesStayCoherent : Obligations.TexturePagesStayCoherent := by
  intro s t hs hpages h
  exact (kept_rangedPages.step ⟨((inv_iff s).1 hs).1, hpages⟩ h).2

end Sys2Proof.Machine
end

section
/-! The pixel codec (R72, R73), the packed word of a cell (R71, R75, R78), and what the mask mode lets a command write
(R76, R307, R309). -/

namespace Sys2Proof.Machine

/-! ## The codec, field by field (R72) -/

/-- Two words agree on a field exactly when they agree on its bits. -/
theorem extract_eq_iff {w lo n : Nat} {a b : BitVec w} :
    a.extractLsb' lo n = b.extractLsb' lo n ↔ ∀ i, lo ≤ i → i < lo + n → a.getLsbD i = b.getLsbD i := by
  refine ⟨fun h i hlo hhi => ?_, fun h => BitVec.eq_of_getLsbD_eq fun i hi => ?_⟩
  · have hi : i - lo < n := by omega
    simpa [hi, show lo + (i - lo) = i by omega] using congrArg (fun x => x.getLsbD (i - lo)) h
  · simpa [hi] using h (lo + i) (by omega) (by omega)

/-- A native pixel is its mask bit and its three channels (R12). -/
theorem pixel_ext {p q : BitVec 16} (hm : p.extractLsb' 15 1 = q.extractLsb' 15 1)
    (hb : p.extractLsb' 10 5 = q.extractLsb' 10 5) (hg : p.extractLsb' 5 5 = q.extractLsb' 5 5)
    (hr : p.extractLsb' 0 5 = q.extractLsb' 0 5) : p = q := by
  rw [extract_eq_iff] at hm hb hg hr
  refine BitVec.eq_of_getLsbD_eq fun i hi => ?_
  rcases (by omega : i < 5 ∨ (5 ≤ i ∧ i < 10) ∨ (10 ≤ i ∧ i < 15) ∨ 15 ≤ i) with h | h | h | h
  · exact hr i (by omega) (by omega)
  · exact hg i (by omega) (by omega)
  · exact hb i (by omega) (by omega)
  · exact hm i (by omega) (by omega)

/-- A decoded colour is its mask bit, the five high bits and the three low bits of each channel (R72). -/
theorem colour_ext {c d : BitVec 25} (hm : c.extractLsb' 24 1 = d.extractLsb' 24 1)
    (hr : c.extractLsb' 19 5 = d.extractLsb' 19 5) (hr0 : c.extractLsb' 16 3 = d.extractLsb' 16 3)
    (hg : c.extractLsb' 11 5 = d.extractLsb' 11 5) (hg0 : c.extractLsb' 8 3 = d.extractLsb' 8 3)
    (hb : c.extractLsb' 3 5 = d.extractLsb' 3 5) (hb0 : c.extractLsb' 0 3 = d.extractLsb' 0 3) : c = d := by
  rw [extract_eq_iff] at hm hr hr0 hg hg0 hb hb0
  refine BitVec.eq_of_getLsbD_eq fun i hi => ?_
  rcases (by omega : i < 3 ∨ (3 ≤ i ∧ i < 8) ∨ (8 ≤ i ∧ i < 11) ∨ (11 ≤ i ∧ i < 16) ∨ (16 ≤ i ∧ i < 19) ∨
    (19 ≤ i ∧ i < 24) ∨ 24 ≤ i) with h | h | h | h | h | h | h
  · exact hb0 i (by omega) (by omega)
  · exact hb i (by omega) (by omega)
  · exact hg0 i (by omega) (by omega)
  · exact hg i (by omega) (by omega)
  · exact hr0 i (by omega) (by omega)
  · exact hr i (by omega) (by omega)
  · exact hm i (by omega) (by omega)

/-- Every field of a decoded pixel (R72). -/
theorem decode15_fields (p : BitVec 16) :
    (decode15 p).extractLsb' 24 1 = p.extractLsb' 15 1 ∧ (decode15 p).extractLsb' 19 5 = p.extractLsb' 0 5 ∧
      (decode15 p).extractLsb' 16 3 = 0#3 ∧ (decode15 p).extractLsb' 11 5 = p.extractLsb' 5 5 ∧
      (decode15 p).extractLsb' 8 3 = 0#3 ∧ (decode15 p).extractLsb' 3 5 = p.extractLsb' 10 5 ∧
      (decode15 p).extractLsb' 0 3 = 0#3 := by
  unfold decode15
  refine ⟨?_, ?_, ?_, ?_, ?_, ?_, ?_⟩ <;> ext j hj <;>
    simp only [BitVec.getElem_extractLsb', BitVec.getLsbD_append, BitVec.getLsbD_extractLsb'] <;> grind

/-- Every field of an encoded colour (R72). -/
theorem encode15_fields (c : BitVec 25) :
    (encode15 c).extractLsb' 15 1 = c.extractLsb' 24 1 ∧ (encode15 c).extractLsb' 10 5 = c.extractLsb' 3 5 ∧
      (encode15 c).extractLsb' 5 5 = c.extractLsb' 11 5 ∧ (encode15 c).extractLsb' 0 5 = c.extractLsb' 19 5 := by
  unfold encode15
  refine ⟨?_, ?_, ?_, ?_⟩ <;> ext j hj <;>
    simp only [BitVec.getElem_extractLsb', BitVec.getLsbD_append, BitVec.getLsbD_extractLsb'] <;> grind

/-- Settles O20: field by field, the low three bits of each channel being what the codec drops. -/
theorem pixelCodecRoundTrip : Obligations.PixelCodecRoundTrip := by
  refine ⟨fun p => ?_, fun c => ?_⟩
  · obtain ⟨dm, dr, -, dg, -, db, -⟩ := decode15_fields p
    obtain ⟨em, eb, eg, er⟩ := encode15_fields (decode15 p)
    exact pixel_ext (em.trans dm) (eb.trans db) (eg.trans dg) (er.trans dr)
  · obtain ⟨dm, dr, dr0, dg, dg0, db, db0⟩ := decode15_fields (encode15 c)
    obtain ⟨em, eb, eg, er⟩ := encode15_fields c
    refine ⟨fun h => ?_, fun ⟨hr0, hg0, hb0⟩ => ?_⟩
    · rw [h] at dr0 dg0 db0
      exact ⟨dr0, dg0, db0⟩
    · exact colour_ext (dm.trans em) (dr.trans er) (dr0.trans hr0.symm) (dg.trans eg) (dg0.trans hg0.symm)
        (db.trans eb) (db0.trans hb0.symm)

/-! ## The packed word (R71, R75, R78) -/

/-- The packed word of a cell without palette flags: five zero bits, the tag, the pixel (R71). -/
theorem Vram.packed_of_noFlags {v : Vram} {x y : Int} (h : v.flagsAt x y = noFlags) :
    v.packed x y = 0#5 ++ v.tag x y ++ packPixel v.fmt (v.read x y) := by
  have hzero : (0#1 ++ bit false ++ bit false ++ bit false ++ bit false : BitVec 5) = 0#5 := by decide
  unfold Vram.packed
  rw [h, ← hzero]
  rfl

theorem Vram.tag_write (v : Vram) (x y x' y' : Int) (p : BitVec 16) : (v.write x y p).tag x' y' = v.tag x' y' := rfl

/-- Settles O21: a write clears the written cell's flags, keeps every tag and every other cell's flags and pixel. -/
theorem writeReplacesOnePackedWord : Obligations.WriteReplacesOnePackedWord := by
  intro v x y x' y' p
  rw [← cellIndex_eq_iff]
  constructor
  · intro hcell
    have hread : (v.write x y p).read x' y' = p := by rw [Vram.read_write, if_pos hcell.symm]
    have hflags : (v.write x y p).flagsAt x' y' = noFlags := by rw [Vram.flagsAt_write, if_pos hcell.symm]
    refine ⟨?_, hread⟩
    rw [Vram.packed_of_noFlags hflags, hread, Vram.tag_write, Vram.write_fmt]
  · intro hcell
    unfold Vram.packed
    rw [Vram.read_write, if_neg (Ne.symm hcell), Vram.flagsAt_write, if_neg (Ne.symm hcell), Vram.tag_write,
      Vram.write_fmt]

theorem cellIndex_column (x y : Int) : cellIndex x y % 1024 = (x % 1024).toNat := by
  unfold cellIndex; omega

@[simp] theorem Vram.convertTo_read (v : Vram) (f : VFmt) (x y : Int) : (v.convertTo f).read x y = v.read x y := by
  simp [Vram.read]

/-- A conversion to the other format leaves no flag (R78). -/
theorem Vram.packed_converted {v : Vram} {f : VFmt} (h : v.fmt ≠ f) (x y : Int) :
    (v.convertTo f).packed x y = 0#5 ++ (v.convertTo f).tag x y ++ packPixel f (v.read x y) := by
  have hflags : (v.convertTo f).flagsAt x y = noFlags := by unfold Vram.convertTo; rw [if_neg h]; rfl
  rw [Vram.packed_of_noFlags hflags, Vram.convertTo_fmt, Vram.convertTo_read]

/-- A conversion to the other format gives every cell that format's own tag (R78). -/
theorem Vram.tag_converted {v : Vram} {f : VFmt} (h : v.fmt ≠ f) (x y : Int) :
    (v.convertTo f).tag x y = match f with
      | .f15 => 0#2
      | .f24 => defaultTag (cellIndex x y) := by
  unfold Vram.convertTo
  rw [if_neg h]
  cases f <;> rfl

/-- Settles O22: by the format, a conversion to the present one being none. -/
theorem formatConversionKeepsPixels : Obligations.FormatConversionKeepsPixels := by
  intro v x y
  refine ⟨fun h => ?_, fun h => ?_, fun f => ⟨v.convertTo_read f x y, v.convertTo_fmt f⟩, fun f h => if_pos h⟩
  · rw [Vram.packed_converted (by simp [h]), Vram.tag_converted (by simp [h]), ← cellIndex_column x y]
    rfl
  · have hzero : (0#5 ++ 0#2 : BitVec 7) = 0#7 := by decide
    rw [Vram.packed_converted (by simp [h]), Vram.tag_converted (by simp [h]), ← hzero]
    rfl

/-! ## What the mask mode lets a command write (R76, R307, R309) -/

/-- Every cell changed was open to a write under the mask mode and is marked as it asks. -/
def Vram.MaskedTo (msk : MaskMode) (v w : Vram) : Prop :=
  ∀ x y : Int, w.read x y ≠ v.read x y →
    (msk.chk = true → maskBit (v.read x y) = false) ∧ (msk.set = true → maskBit (w.read x y) = true)

section
variable {msk : MaskMode} {u v w : Vram}

theorem Vram.MaskedTo.of_native (h : w.native = v.native) : v.MaskedTo msk w := by
  intro x y hne
  exact absurd (congrArg (fun m => cellOf m x y) h) hne

theorem Vram.MaskedTo.refl (msk : MaskMode) (v : Vram) : v.MaskedTo msk v := .of_native rfl

theorem Vram.MaskedTo.trans (h : v.MaskedTo msk w) (h' : w.MaskedTo msk u) : v.MaskedTo msk u := by
  intro x y hne
  by_cases hw : w.read x y = v.read x y
  · have := h' x y (by rwa [hw])
    rwa [hw] at this
  · obtain ⟨hchk, hset⟩ := h x y hw
    refine ⟨hchk, fun hs => ?_⟩
    by_cases hu : u.read x y = w.read x y
    · rw [hu]; exact hset hs
    · exact (h' x y hu).2 hs

/-- A cell open to the write and given a marked pixel. -/
theorem Vram.MaskedTo.write {x y : Int} {p : BitVec 16} (hchk : msk.chk = false ∨ maskBit (v.read x y) = false)
    (hset : msk.set = true → maskBit p = true) : v.MaskedTo msk (v.write x y p) := by
  intro x' y' hne
  rw [Vram.read_write] at hne ⊢
  split at hne
  · next hcell =>
    have hsame : v.read x' y' = v.read x y := by unfold Vram.read cellOf; rw [hcell]
    rw [if_pos hcell, hsame]
    exact ⟨fun hc => hchk.resolve_left (by simp [hc]), hset⟩
  · exact absurd rfl hne

theorem maskBit_orMask (p : BitVec 16) : maskBit (orMask p true) = true := by
  simp [maskBit, orMask]

theorem maskBit_pixelOf (c : Rgb5) : maskBit (pixelOf c true) = true := by
  simp [maskBit, pixelOf]

theorem Vram.MaskedTo.maskedWrite (msk : MaskMode) (v : Vram) (x y : Int) (p : BitVec 16) :
    v.MaskedTo msk (v.maskedWrite msk x y p) := by
  rcases v.maskedWrite_cases msk x y p with ⟨-, -, e⟩ | ⟨hopen, e⟩ <;> rw [e]
  · exact .refl msk v
  · exact .write hopen fun hs => by rw [hs]; exact maskBit_orMask p

theorem Vram.MaskedTo.plotAll (m : RenderMode) (v : Vram) (ps : List Pixel) :
    v.MaskedTo ⟨m.set, m.chk⟩ (plotAll m v ps) := by
  refine plotAll_induct (P := v.MaskedTo ⟨m.set, m.chk⟩) m v ps (.refl _ v) fun w hw p _ => hw.trans ?_
  rcases plot_cases m w p with e | ⟨hopen, c, sm, -, e⟩ <;> rw [e]
  · exact .refl _ w
  · exact .write hopen fun hs => by
      rw [plotValue, show m.set = true from hs, Bool.or_true]; exact maskBit_pixelOf _

theorem copyBlock_maskedTo (msk : MaskMode) (o : Copy) (v : Vram) : v.MaskedTo msk (copyBlock msk o v) :=
  copyBlock_induct (P := v.MaskedTo msk) msk o v (.refl msk v) fun u hu x y p => hu.trans (.maskedWrite msk u x y p)

theorem storePixel_maskedTo (msk : MaskMode) (i : ImageIn) (p : BitVec 16) (v : Vram) :
    v.MaskedTo msk (storePixel msk i p v) :=
  (Vram.MaskedTo.maskedWrite msk v _ _ p).trans (.of_native (Vram.setTag_native ..))

end

/-- What an operation of the state writes obeys the mask mode; it leaves the mask mode as it is. -/
def State.MaskedTo (s t : State) : Prop := t.msk = s.msk ∧ s.vram.MaskedTo s.msk t.vram

section
variable {s t u : State}

theorem State.MaskedTo.of_native (hm : t.msk = s.msk) (hn : t.vram.native = s.vram.native) : s.MaskedTo t :=
  ⟨hm, .of_native hn⟩

theorem State.MaskedTo.trans (h : s.MaskedTo t) (h' : t.MaskedTo u) : s.MaskedTo u := by
  obtain ⟨hm, hv⟩ := h
  obtain ⟨hm', hv'⟩ := h'
  exact ⟨hm'.trans hm, hv.trans (hm ▸ hv')⟩

theorem drawPrimitive_maskedTo (textured raw semi : Bool) (k : ClutSel) (ps : List Pixel) (r : Rect) (s : State) :
    s.MaskedTo (reportIfAny r (drawPrimitive textured raw semi k ps s)) := by
  have hmsk : (drawPrimitive textured raw semi k ps s).msk = s.msk := by
    rw [drawPrimitive_frame]
  have hdraw : s.MaskedTo (drawPrimitive textured raw semi k ps s) := by
    refine ⟨hmsk, (Vram.MaskedTo.plotAll (s.mode textured raw semi k) s.vram ps).trans (.of_native ?_)⟩
    exact drawPrimitive_native ..
  exact hdraw.trans (.of_native (by simp) (reportIfAny_native ..))

theorem polygon_maskedTo (c : PolyCmd) (s : State) : s.MaskedTo (polygon c s) := by
  have hmode : s.MaskedTo (c.writeMode s) := .of_native (by simp) (by simp)
  unfold polygon PolyCmd.draw
  rw [mod16Check_eq]
  split
  · exact hmode
  · exact hmode.trans (drawPrimitive_maskedTo ..)

theorem rectangle_maskedTo (c : RectCmd) (s : State) : s.MaskedTo (rectangle c s) := by
  unfold rectangle RectCmd.draw
  rw [mod16Check_eq]
  split
  · exact .of_native rfl rfl
  · exact drawPrimitive_maskedTo ..

theorem segment_maskedTo (p0 p1 : Int × Int) (c0 c1 : Rgb) (semi : Bool) (s : State) :
    s.MaskedTo (segment p0 p1 c0 c1 semi s) := by
  rcases segment_cases p0 p1 c0 c1 semi s with ⟨-, e⟩ | ⟨-, t, e, hframe, hnative, -⟩ <;> rw [e]
  · exact .of_native rfl rfl
  · refine ⟨by rw [hframe], (Vram.MaskedTo.plotAll (s.mode false false semi ⟨0#6, 0#9⟩) s.vram
      (linePixels p0 p1 c0 c1)).trans (.of_native hnative)⟩

theorem polyline_maskedTo (kind : XKind) (c : LineCmd) (s : State) : s.MaskedTo (polyline kind c s) := by
  have hdiag : s.MaskedTo (if c.semi then raiseDiag .semiPolyline s else s) := by
    split
    · exact .of_native (by simp) (by simp)
    · exact .of_native rfl rfl
  exact (hdiag.trans (segment_maskedTo ..)).trans (.of_native rfl rfl)

theorem vcopy_maskedTo (o : Copy) (s : State) : s.MaskedTo (vcopy o s) := ⟨rfl, copyBlock_maskedTo s.msk o s.vram⟩

theorem imageIn_maskedTo (o : Xfer) (s : State) : s.MaskedTo (imageIn o s) :=
  .of_native (formatSwitch_msk o.w s) (formatSwitch_native o.w s)

theorem reportAborted_maskedTo (s : State) : s.MaskedTo (reportAborted s) := by
  rcases reportAborted_cases s with ⟨-, e⟩ | ⟨-, e⟩ <;> rw [e] <;> exact .of_native rfl rfl

theorem locked_maskedTo {f : State → State} (hf : ∀ u : State, u.MaskedTo (f u)) (s : State) : s.MaskedTo (locked f s) := by
  rcases locked_cases f s with ⟨-, e⟩ | ⟨-, e⟩ | ⟨-, e⟩ <;> rw [e]
  · exact ((State.MaskedTo.of_native rfl rfl).trans (hf (acquireLock s))).trans (.of_native rfl rfl)
  · exact hf s
  · exact .of_native rfl rfl

end

/-- Every instruction but FILL writes as the mask mode it starts under asks (SETMASK and G1.RESET write another, and no
cell). -/
theorem exec_maskedTo {i : Instr} (hi : ∀ o, i ≠ .fill o) {s t : State} (h : exec i s = .next t) :
    s.vram.MaskedTo s.msk t.vram := by
  have is : ∀ {u : State}, exec i s = .next u → s.vram.MaskedTo s.msk u.vram → s.vram.MaskedTo s.msk t.vram :=
    fun he hu => of_exec_eq (P := fun v => s.vram.MaskedTo s.msk v.vram) h he hu
  have same : ∀ {u : State}, exec i s = .next u → u.vram.native = s.vram.native → s.vram.MaskedTo s.msk t.vram :=
    fun he hn => is he (.of_native hn)
  cases execForm i with
  | keeps _ _ he => exact same (he s) rfl
  | flush e => subst e; exact same rfl rfl
  | fill o e => exact absurd e (hi o)
  | polygon c _ _ he => exact is (he s) (locked_maskedTo (polygon_maskedTo c) s).2
  | rectangle c _ _ he => exact is (he s) (locked_maskedTo (rectangle_maskedTo c) s).2
  | line c _ _ _ he => exact is (he s) (locked_maskedTo (fun u => segment_maskedTo _ _ _ _ _ u) s).2
  | polyline c _ _ _ he => exact is (he s) (locked_maskedTo (polyline_maskedTo _ c) s).2
  | copy o _ _ he => exact is (he s) (locked_maskedTo (vcopy_maskedTo o) s).2
  | imageIn o _ _ _ he => exact is (he s) (locked_maskedTo (imageIn_maskedTo o) s).2
  | imageOut o _ _ _ he => exact same (he s) rfl
  | g1Reset e => subst e; exact is rfl (reportAborted_maskedTo s).2
  | g1Abort e => subst e; exact is rfl (reportAborted_maskedTo s).2
  | g1Origin o e => subst e; exact same rfl (congrArg Vram.native (decideRefresh_vram _))
  | info o _ _ he => exact same (he s) rfl
  | setmode o e | settw o e | setclip1 o e | setclip2 o e | setofs o e | setmask o e | g1Dispen o e
  | g1Dmadir o e | g1Hrange o e | g1Vrange o e | g1Mode o e => subst e; exact same rfl rfl

theorem imageHalf_maskedTo (p : BitVec 16) (s : State) : s.MaskedTo (imageHalf p s) := by
  unfold imageHalf
  split
  · exact ⟨rfl, storePixel_maskedTo s.msk s.img p s.vram⟩
  · exact .of_native rfl rfl

theorem imageCount_maskedTo (s : State) : s.MaskedTo (imageCount s) := by
  unfold imageCount; split <;> exact .of_native rfl rfl

theorem dataWord_maskedTo (w : Word) (s : State) : s.MaskedTo (dataWord w s) := by
  unfold dataWord
  split
  · unfold imageInWord
    split
    · exact ((imageHalf_maskedTo _ s).trans (imageHalf_maskedTo _ _)).trans (imageCount_maskedTo _)
    · exact .of_native rfl rfl
  · unfold polyFlatWord
    split
    · exact .of_native rfl rfl
    · exact segment_maskedTo s.pline.plast (vertex s.ofs (.ofWord w)) s.pline.pcol s.pline.pcol false s
  · unfold polyGouraudWord
    split
    · split <;> exact .of_native rfl rfl
    · exact segment_maskedTo s.pline.plast (vertex s.ofs (.ofWord w)) s.pline.pcol s.pline.pnext false s

/-- Settles O23: every write but FILL's is a masked write or a plotted pixel, and a chain of such writes obeys the mask
mode as each of them does. -/
theorem maskModeGovernsWrites : Obligations.MaskModeGovernsWrites :=
  ⟨fun _ _ _ x y hi h => exec_maskedTo hi h x y, fun w s x y => (dataWord_maskedTo w s).2 x y⟩

end Sys2Proof.Machine
end

section
/-! The VRAM lock (R90, R91): the bracket of the commands that may write VRAM, and the calls that wait for it. -/

namespace Sys2Proof.Machine

/-! ## The bracket (R90, R145) -/

/-- A command that may write VRAM is an operation inside the bracket. -/
theorem exec_locked {i : Instr} (hw : writesVram i = true) : ∃ f : State → State, ∀ s, exec i s = .next (locked f s) := by
  cases execForm i with
  | keeps _ hw' | imageOut _ _ _ hw' | info _ _ hw' => rw [hw] at hw'; cases hw'
  | fill o e => subst e; exact ⟨_, fun _ => rfl⟩
  | polygon c _ _ he => exact ⟨_, he⟩
  | rectangle c _ _ he => exact ⟨_, he⟩
  | line c _ _ _ he => exact ⟨_, he⟩
  | polyline c _ _ _ he => exact ⟨_, he⟩
  | copy o _ _ he => exact ⟨_, he⟩
  | imageIn o _ _ _ he => exact ⟨_, he⟩
  | flush e | g1Reset e | g1Abort e => subst e; cases hw
  | setmode o e | settw o e | setclip1 o e | setclip2 o e | setofs o e | setmask o e | g1Dispen o e
  | g1Dmadir o e | g1Origin o e | g1Hrange o e | g1Vrange o e | g1Mode o e => subst e; cases hw

theorem locked_block {f : State → State} {s : State} (h : s.lock = .block) : locked f s = f s := by
  simp [locked, h]

theorem reportAborted_native (s : State) : (reportAborted s).vram.native = s.vram.native := by
  rcases reportAborted_cases s with ⟨-, e⟩ | ⟨-, e⟩ <;> rw [e]; rfl

/-- A command that may not write VRAM changes no pixel, and no trace but for GP1 05. -/
theorem exec_quiet {i : Instr} (hw : writesVram i = false) {s t : State} (h : exec i s = .next t) :
    t.vram.native = s.vram.native ∧ ((∀ o, i ≠ .g1Origin o) → t.trace = s.trace) := by
  have is : ∀ {u : State}, exec i s = .next u → u.vram.native = s.vram.native → u.trace = s.trace →
      t.vram.native = s.vram.native ∧ ((∀ o, i ≠ .g1Origin o) → t.trace = s.trace) :=
    fun he hn ht => of_exec_eq (P := fun v => v.vram.native = s.vram.native ∧ ((∀ o, i ≠ .g1Origin o) →
      v.trace = s.trace)) h he ⟨hn, fun _ => ht⟩
  cases execForm i with
  | keeps _ _ he => exact is (he s) rfl rfl
  | flush e => subst e; exact is rfl rfl rfl
  | fill o e => subst e; cases hw
  | polygon _ _ hw' | rectangle _ _ hw' | line _ _ _ hw' | polyline _ _ _ hw' | copy _ _ hw'
  | imageIn _ _ _ hw' => rw [hw] at hw'; cases hw'
  | imageOut o _ _ _ he => exact is (he s) rfl rfl
  | g1Reset e => subst e; exact is rfl (reportAborted_native s) (reportAborted_trace s)
  | g1Abort e => subst e; exact is rfl (reportAborted_native s) (reportAborted_trace s)
  | g1Origin o e =>
    subst e
    cases h
    exact ⟨congrArg Vram.native (decideRefresh_vram _), fun hne => absurd rfl (hne o)⟩
  | info o _ _ he => exact is (he s) rfl rfl
  | setmode o e | settw o e | setclip1 o e | setclip2 o e | setofs o e | setmask o e | g1Dispen o e
  | g1Dmadir o e | g1Hrange o e | g1Vrange o e | g1Mode o e => subst e; exact is rfl rfl rfl

/-- Settles O13: a VRAM-writing command is one operation, run between acquire and release, or bare where the lock is
held. -/
theorem writingCommandsAreBracketed : Obligations.WritingCommandsAreBracketed := by
  refine ⟨fun i s hw hfree => ?_, fun i s t hw h => ⟨exec_lock h, exec_quiet hw h⟩⟩
  obtain ⟨f, he⟩ := exec_locked hw
  have hheld : exec i (acquireLock s) = .next (f (acquireLock s)) := by rw [he, locked_block rfl]
  exact ⟨_, hheld, by rw [he, locked_free hfree], exec_lock hheld⟩

/-! ## The wait (R91) -/

theorem step_of_mustWait {c : Call} {rest : List Call} {s : State} (hc : s.calls = c :: rest)
    (h : mustWait c s = true) : step s = .next (whileWaiting s) := by
  simp [step, nextCall, hc, h]

theorem step_of_not_mustWait {c : Call} {rest : List Call} {s : State} (hc : s.calls = c :: rest)
    (h : mustWait c s = false) : step s = runCall c { s with calls := rest } := by
  simp [step, nextCall, hc, h]

/-- Settles O14: a held call stays first in the queue, and the sink's release is taken from behind it. -/
theorem heldLockHoldsCalls : Obligations.HeldLockHoldsCalls := by
  intro c rest s hc hsink htakes
  have hne : c ≠ .sinkRelease := by rintro rfl; cases htakes
  have hmem : Call.sinkRelease ∈ s.calls ↔ Call.sinkRelease ∈ rest := by simp [hc, hne.symm]
  rw [step_of_mustWait hc (by simp [mustWait, htakes, hsink])]
  unfold whileWaiting
  refine ⟨fun hno => ?_, fun hyes => ?_⟩
  · rw [if_neg fun h => hno (hmem.1 h.2)]
  · rw [if_pos ⟨hsink, hmem.2 hyes⟩, hc, List.erase_cons_tail (by simpa using hne)]

end Sys2Proof.Machine
end

section
/-! A step runs the instruction its words decode to (R88, R140, R350; log entry 3). -/

namespace Sys2Proof.Machine

/-! ## A command is decoded from its own words (R111, R133) -/

theorem wordAt_take {ws : List Word} {n k : Nat} (h : k < n) : wordAt (ws.take n) k = wordAt ws k := by
  simp [wordAt, h]

theorem decodeMisc_take {v : Nat} (hv : v < 32) (ws : List Word) :
    decodeMisc v (ws.take (lenClass0.getD v 1)) = decodeMisc v ws := by
  interval_cases v <;> simp [decodeMisc, lenClass0, Fill.ofWords, wordAt_take]

theorem decodePolygon_take {v : Nat} (hv : v < 32) (ws : List Word) :
    decodePolygon v (ws.take (lenClass1.getD v 1)) = decodePolygon v ws := by
  interval_cases v <;> simp [decodePolygon, lenClass1, FlatTri.ofWords, FlatTriTex.ofWords, FlatQuad.ofWords,
    FlatQuadTex.ofWords, GourTri.ofWords, GourTriTex.ofWords, GourQuad.ofWords, GourQuadTex.ofWords, wordAt_take]

theorem decodeLine_take {v : Nat} (hv : v < 32) (ws : List Word) :
    decodeLine v (ws.take (lenClass2.getD v 1)) = decodeLine v ws := by
  interval_cases v <;> simp [decodeLine, lenClass2, FlatLine.ofWords, GourLine.ofWords, wordAt_take]

theorem decodeRect_take {v : Nat} (hv : v < 32) (ws : List Word) :
    decodeRect v (ws.take (lenClass3.getD v 1)) = decodeRect v ws := by
  interval_cases v <;> simp [decodeRect, lenClass3, RectVar.ofWords, RectVarTex.ofWords, RectFix.ofWords,
    RectFixTex.ofWords, wordAt_take]

theorem Copy.ofWords_take (ws : List Word) : Copy.ofWords (ws.take 4) = Copy.ofWords ws := by
  simp [Copy.ofWords, wordAt_take]

theorem Xfer.ofWords_take (ws : List Word) : Xfer.ofWords (ws.take 3) = Xfer.ofWords ws := by
  simp [Xfer.ofWords, wordAt_take]

/-- The words after a command's own do not matter to what it decodes to (R111). -/
theorem gp0Instr_take (op : BitVec 8) (ws : List Word) : gp0Instr op (ws.take (opLen op)) = gp0Instr op ws := by
  have hv : opVariant op < 32 := Nat.mod_lt _ (by decide)
  unfold gp0Instr opLen
  split
  · exact decodeMisc_take hv ws
  · exact decodePolygon_take hv ws
  · exact decodeLine_take hv ws
  · exact decodeRect_take hv ws
  · simp only [decodeCopy, Copy.ofWords_take]
  · simp only [decodeImageIn, Xfer.ofWords_take]
  · simp only [decodeImageOut, Xfer.ofWords_take]
  · simp only [decodeMode, wordAt_take (show 0 < 1 by decide)]

theorem opLen_le : ∀ op : BitVec 8, opLen op ≤ 12 := by decide +kernel

/-- What decoding words that are one command says of them. -/
theorem decode_gp0_eq {ws : List Word} {i : Instr} (h : decode .gp0 ws = .ok (i, [])) :
    decodeGp0 ws = .ok i ∧ opLen (opcodeOf (wordAt ws 0)) = ws.length := by
  cases ws with
  | nil => cases h
  | cons w rest =>
    simp only [decode] at h
    split at h
    · cases h
    · next j hj =>
      obtain ⟨rfl, hrest⟩ := Prod.mk.inj (Except.ok.inj h)
      refine ⟨hj, le_antisymm ?_ (List.drop_eq_nil_iff.1 hrest)⟩
      by_contra hshort
      have htrunc : decodeGp0 (w :: rest) = .error (.truncated (opcodeOf w)) := if_pos (not_le.1 hshort)
      cases htrunc.symm.trans hj

theorem decodeGp0_cons {w : Word} {rest : List Word} (h : opLen (opcodeOf w) ≤ (w :: rest).length) :
    decodeGp0 (w :: rest) = .ok (gp0Instr (opcodeOf w) (w :: rest)) := by
  simp only [decodeGp0, if_neg (not_lt.2 h)]

/-! ## The state machine's last word (R141, R142, R144) -/

theorem dispatch_of_decode {ws : List Word} {i : Instr} {s : State} (hd : decodeGp0 ws = .ok i)
    (hw : s.cbuf.take s.clen = ws) : dispatch s = exec i s := by
  simp only [dispatch, hw, hd]

/-- A one-word command in `Idle`. -/
theorem gp0Write_idle {w : Word} {i : Instr} {s : State} (hidle : s.dstate = .idle) (hbuf : s.cbuf.length = 12)
    (hlen : opLen (opcodeOf w) = 1) (hd : decodeGp0 [w] = .ok i) :
    gp0Write w s = exec i { s with cbuf := s.cbuf.set 0 w, clen := 1, ctarget := 1 } := by
  simp only [gp0Write, hidle, gp0Idle, if_pos hlen]
  refine dispatch_of_decode hd ?_
  cases hb : s.cbuf with
  | nil => simp [hb] at hbuf
  | cons a t => rfl

theorem take_set_last {α : Type} {l : List α} {n : Nat} (h : n < l.length) (a : α) :
    (l.set n a).take (n + 1) = l.take n ++ [a] := by
  rw [List.take_add_one, List.take_set_of_le (le_refl n), List.getElem?_set_self h]
  rfl

/-- The word that fills the buffer. -/
theorem gp0Write_filling {w : Word} {i : Instr} {s : State} (hfilling : s.dstate = .filling) (hok : s.fillingOk = true)
    (hbuf : s.cbuf.length = 12) (hlast : s.clen + 1 = s.ctarget) (hd : decodeGp0 (s.cbuf.take s.clen ++ [w]) = .ok i) :
    gp0Write w s = exec i { s with cbuf := s.cbuf.set s.clen w, clen := s.clen + 1, dstate := .idle } := by
  have hlt : s.clen < s.cbuf.length := by
    simp only [State.fillingOk, Bool.and_eq_true, decide_eq_true_eq] at hok; omega
  simp only [gp0Write, hfilling, gp0Filling, if_pos hok, if_pos hlast]
  exact dispatch_of_decode hd (take_set_last hlt w)

theorem fillingOk_of_sequencingWf {s : State} (hs : s.sequencingWf) (hd : s.dstate = .filling) :
    s.fillingOk = true := by
  obtain ⟨h1, h2, h3⟩ := hs.2 hd
  have := opLen_le (opcodeOf (wordAt s.cbuf 0))
  simp only [State.fillingOk, Bool.and_eq_true, decide_eq_true_eq]
  omega

theorem mustWait_of_free (c : Call) {s : State} (h : s.lock = .free) : mustWait c s = false := by
  simp [mustWait, h]

/-! ## `withFetchWord` (log entry 3) -/

theorem tableWords_length (nbits w : Nat) : (wordsOfBytes (tableBytes nbits w)).length = 12 := rfl

/-- The words of a table row's instruction: as many as its opcode's `LEN` says, and they decode to it. -/
theorem fetchWords_spec {nbits w : Nat} {i : Instr} (h : decodeTableWord nbits w = some i) :
    (fetchWords nbits w).length = opLen (opcodeOf (wordAt (fetchWords nbits w) 0)) ∧
      decodeGp0 (fetchWords nbits w) = .ok i := by
  have hall := tableWords_length nbits w
  unfold decodeTableWord decodeBytes at h
  unfold fetchWords
  generalize wordsOfBytes (tableBytes nbits w) = all at *
  have hpos := opLen_pos (opcodeOf (wordAt all 0))
  have hle := opLen_le (opcodeOf (wordAt all 0))
  have hhead := wordAt_take (ws := all) (show 0 < opLen (opcodeOf (wordAt all 0)) by omega)
  have hlen : (all.take (opLen (opcodeOf (wordAt all 0)))).length = opLen (opcodeOf (wordAt all 0)) := by
    rw [List.length_take]; omega
  refine ⟨by rw [hhead, hlen], ?_⟩
  cases all with
  | nil => simp at hall
  | cons a t =>
    have hinstr := gp0Instr_take (opcodeOf a) (a :: t)
    rw [show wordAt (a :: t) 0 = a from rfl] at *
    simp only [decode, decodeGp0_cons (show opLen (opcodeOf a) ≤ (a :: t).length by omega), Option.some.injEq] at h
    obtain ⟨n, hn⟩ : ∃ n, opLen (opcodeOf a) = n + 1 := ⟨_, (Nat.succ_pred (by omega)).symm⟩
    rw [hn, List.take_succ_cons] at hlen hinstr ⊢
    rw [decodeGp0_cons (by omega), hinstr, h]

theorem dropLast_append_wordAt {ws : List Word} (h : 0 < ws.length) :
    ws.dropLast ++ [wordAt ws (ws.length - 1)] = ws := by
  have hne : ws ≠ [] := List.ne_nil_of_length_pos h
  rw [wordAt, List.getD_eq_getElem _ _ (by omega), ← List.getLast_eq_getElem hne, List.dropLast_append_getLast]

/-- A word put into the buffer behind others. -/
theorem set_append_drop {α : Type} {ws l : List α} {a : α} (h : ws.length < l.length) :
    (ws ++ l.drop ws.length).set ws.length a = (ws ++ [a]) ++ l.drop (ws ++ [a]).length := by
  rw [List.set_append_right _ _ (le_refl _), Nat.sub_self, List.drop_eq_getElem_cons h, List.set_cons_zero]
  simp

section
variable {s : State} (hlock : s.lock ≠ .block)
include hlock

theorem placeCommand_one (w : Word) :
    placeCommand [w] s = { s with lock := .free, dstate := .idle, calls := .gp0Write w :: s.calls } := by
  cases hl : s.lock <;> simp_all [placeCommand, wordAt]

theorem placeCommand_more {ws : List Word} (h : 1 < ws.length) :
    placeCommand ws s = { s with
      lock := .free, dstate := .filling, cbuf := ws.dropLast ++ s.cbuf.drop ws.dropLast.length,
      clen := ws.dropLast.length, ctarget := ws.length, calls := .gp0Write (wordAt ws (ws.length - 1)) :: s.calls } := by
  cases hl : s.lock <;> simp_all [placeCommand, not_le.2 h]

/-- The step after `withFetchWord`: the buffer holds the command's words and the instruction runs. -/
theorem step_placeCommand {ws : List Word} {i : Instr} (hbuf : s.cbuf.length = 12)
    (hlen : ws.length = opLen (opcodeOf (wordAt ws 0))) (hd : decodeGp0 ws = .ok i) :
    step (placeCommand ws s) = exec i { s with
      lock := .free, dstate := .idle, cbuf := ws ++ s.cbuf.drop ws.length, clen := ws.length, ctarget := ws.length } := by
  have hpos := opLen_pos (opcodeOf (wordAt ws 0))
  have hle := opLen_le (opcodeOf (wordAt ws 0))
  have hlast := dropLast_append_wordAt (ws := ws) (by omega)
  have hinit : ws.dropLast.length = ws.length - 1 := List.length_dropLast ..
  have hset := set_append_drop (ws := ws.dropLast) (l := s.cbuf) (a := wordAt ws (ws.length - 1)) (by omega)
  rw [hlast] at hset
  by_cases hone : ws.length = 1
  · obtain ⟨w, rfl⟩ := List.length_eq_one_iff.1 hone
    rw [placeCommand_one hlock, step_of_not_mustWait rfl (mustWait_of_free _ rfl)]
    refine (gp0Write_idle (w := w) (s := { s with lock := .free, dstate := .idle }) rfl hbuf hlen.symm hd).trans ?_
    rw [show s.cbuf.set 0 w = [w] ++ s.cbuf.drop 1 from hset]
    rfl
  · rw [placeCommand_more hlock (by omega), step_of_not_mustWait rfl (mustWait_of_free _ rfl)]
    have hok : (1 ≤ ws.dropLast.length ∧ ws.dropLast.length < ws.length) ∧ ws.length ≤ 12 := by omega
    refine (gp0Write_filling (i := i) (s := { s with
      lock := .free, dstate := .filling, cbuf := ws.dropLast ++ s.cbuf.drop ws.dropLast.length,
      clen := ws.dropLast.length, ctarget := ws.length }) rfl ?_ ?_ ?_ ?_).trans ?_
    · simpa [State.fillingOk, and_assoc] using hok
    · simp only [List.length_append, List.length_drop]; omega
    · simp only; omega
    · simp only [List.take_left', hlast, hd]
    · simp only [hset, show ws.dropLast.length + 1 = ws.length by omega]

end

/-- Settles O8: no call of the three waits, and the state machine dispatches the buffer's words. -/
theorem stepRunsDecodedInstruction : Obligations.StepRunsDecodedInstruction := by
  refine ⟨fun w rest i s hc hidle hbuf h => ?_, fun w rest i s hs hc hfilling hfree hlast h => ?_,
    fun w rest i s hc h => ?_, fun nbits w i s hbuf hlock h => ?_⟩
  · obtain ⟨hd, hlen⟩ := decode_gp0_eq h
    rw [step_of_not_mustWait hc (by simp [mustWait, callTakesLock, takesLock, hidle])]
    exact gp0Write_idle hidle hbuf hlen hd
  · obtain ⟨hd, -⟩ := decode_gp0_eq h
    rw [step_of_not_mustWait hc (mustWait_of_free _ hfree)]
    exact gp0Write_filling hfilling (fillingOk_of_sequencingWf hs.sequencing hfilling) hs.sequencing.1 hlast hd
  · rw [step_of_not_mustWait hc rfl]
    obtain rfl : decodeGp1 w = i := by simpa [decode] using h
    rfl
  · obtain ⟨hlen, hd⟩ := fetchWords_spec h
    exact step_placeCommand hlock hbuf hlen hd

end Sys2Proof.Machine
end

section
/-! The read port (R362) and the words of DMA transfers (R205 to R213): what a run of reads returns, and words forwarded
to GP0 one after another. -/

namespace Sys2Proof.Machine

/-! ## Reads of the port (R362) -/

/-- A read changes the read-out registers only. -/
theorem gpuRead_frame (s : State) : (gpuRead s).2 = { s with rd := (gpuRead s).2.rd } := by
  rcases gpuRead_cases s with ⟨-, e⟩ | ⟨-, e⟩ <;> rw [e]

/-- What a read returns and leaves depends on VRAM and the read-out registers only. -/
theorem gpuRead_congr {s t : State} (hv : t.vram = s.vram) (hr : t.rd = s.rd) :
    (gpuRead t).1 = (gpuRead s).1 ∧ (gpuRead t).2.rd = (gpuRead s).2.rd := by
  unfold gpuRead
  rw [hv, hr]
  split <;> exact ⟨rfl, by simp [hr]⟩

theorem gpuRead_vram (s : State) : (gpuRead s).2.vram = s.vram := by rw [gpuRead_frame]

theorem drain_frame (n : Nat) (s : State) : (drain n s).2 = { s with rd := (drain n s).2.rd } := by
  induction n generalizing s with
  | zero => rfl
  | succ n ih => rw [drain, ih, gpuRead_frame]

theorem drain_congr (n : Nat) {s t : State} (hv : t.vram = s.vram) (hr : t.rd = s.rd) :
    (drain n t).1 = (drain n s).1 ∧ (drain n t).2.rd = (drain n s).2.rd := by
  induction n generalizing s t with
  | zero => exact ⟨rfl, hr⟩
  | succ n ih =>
    obtain ⟨hword, hrd⟩ := gpuRead_congr hv hr
    obtain ⟨hwords, hrest⟩ := ih (by rw [gpuRead_vram, gpuRead_vram, hv]) hrd
    exact ⟨by rw [drain, drain, hword, hwords], hrest⟩

theorem drain_length (n : Nat) (s : State) : (drain n s).1.length = n := by
  induction n generalizing s with
  | zero => rfl
  | succ n ih => simp [drain, ih]

/-- Word `k` of a read-out: two pixels, the upper half 0 beyond the last (R82, R362). -/
def readOutWord (s : State) (k : Nat) : Word := readHalf s.vram s.rd (2 * k + 1) ++ readHalf s.vram s.rd (2 * k)

/-- How many reads a read-out takes. -/
def readOutWords (rd : ReadOut) : Nat := (rd.rw * rd.rh + 1) / 2

/-- The read-out registers `k` reads after a read-out was opened. -/
def readOutAfter (s : State) (k : Nat) : ReadOut :=
  { s.rd with
    rpos := min (2 * k) (s.rd.rw * s.rd.rh), ractive := decide (2 * k < s.rd.rw * s.rd.rh),
    rlatch := if k = 0 then s.rd.rlatch else readOutWord s (min (k - 1) (readOutWords s.rd - 1)) }

/-- One read, `k` reads after a read-out was opened (R362). -/
theorem gpuRead_readOutAfter {s t : State} {k : Nat} (hpos : 0 < s.rd.rw * s.rd.rh) (hv : t.vram = s.vram)
    (hr : t.rd = readOutAfter s k) :
    (gpuRead t).1 = readOutWord s (min k (readOutWords s.rd - 1)) ∧ (gpuRead t).2.rd = readOutAfter s (k + 1) := by
  by_cases hk : 2 * k < s.rd.rw * s.rd.rh
  · have hmin : min k (readOutWords s.rd - 1) = k := by unfold readOutWords; omega
    have hword : readWord t.vram t.rd = readOutWord s k := by
      rw [hv, hr]
      simp only [readWord, readOutWord, readOutAfter, readHalf, readPixel, Nat.min_eq_left hk.le]
    have hadvance : readAdvance t.rd = min (2 * (k + 1)) (s.rd.rw * s.rd.rh) := by
      rw [readAdvance_eq _ (by rw [hr]; exact Nat.min_le_right ..), hr]
      simp only [readOutAfter]; omega
    have hactive : (readAdvance t.rd ≠ s.rd.rw * s.rd.rh) ↔ 2 * (k + 1) < s.rd.rw * s.rd.rh := by omega
    obtain ⟨-, e⟩ := (gpuRead_cases t).resolve_left fun h => by simp [hr, readOutAfter, hk] at h
    rw [e, hword, hmin]
    refine ⟨rfl, ?_⟩
    rw [hadvance] at hactive ⊢
    simp [hr, readOutAfter, hmin, hactive]
  · have hmin : min k (readOutWords s.rd - 1) = readOutWords s.rd - 1 := by unfold readOutWords; omega
    have hmin' : min (k - 1) (readOutWords s.rd - 1) = readOutWords s.rd - 1 := by unfold readOutWords; omega
    obtain ⟨-, e⟩ := (gpuRead_cases t).resolve_right fun h => by simp [hr, readOutAfter, hk] at h
    rw [e]
    simp only [hr, readOutAfter, Nat.add_sub_cancel, hmin, hmin', show k ≠ 0 by omega, if_false]
    refine ⟨trivial, ?_⟩
    simp [show min (2 * k) (s.rd.rw * s.rd.rh) = s.rd.rw * s.rd.rh by omega,
      show min (2 * (k + 1)) (s.rd.rw * s.rd.rh) = s.rd.rw * s.rd.rh by omega, hk,
      show ¬ 2 * (k + 1) < s.rd.rw * s.rd.rh by omega]

/-- `n` reads, `k` reads after a read-out was opened: its words in order, the last again and again (R362). -/
theorem drain_readOutAfter {s t : State} {n k : Nat} (hpos : 0 < s.rd.rw * s.rd.rh) (hv : t.vram = s.vram)
    (hr : t.rd = readOutAfter s k) :
    (drain n t).2.rd = readOutAfter s (k + n) ∧
      ∀ j, j < n → (drain n t).1[j]? = some (readOutWord s (min (k + j) (readOutWords s.rd - 1))) := by
  induction n generalizing t k with
  | zero => exact ⟨hr, by simp⟩
  | succ n ih =>
    obtain ⟨hword, hrd⟩ := gpuRead_readOutAfter hpos hv hr
    obtain ⟨hend, hwords⟩ := ih ((gpuRead_vram t).trans hv) hrd
    refine ⟨by rw [drain, hend, Nat.add_right_comm, Nat.add_assoc], fun j hj => ?_⟩
    cases j with
    | zero => simp [drain, hword]
    | succ j =>
      rw [drain, List.getElem?_cons_succ, hwords j (by omega), Nat.add_right_comm, Nat.add_assoc]

theorem readOutAfter_zero {s : State} (hpos : 0 < s.rd.rw * s.rd.rh) (hactive : s.rd.ractive = true)
    (hstart : s.rd.rpos = 0) : s.rd = readOutAfter s 0 := by
  cases hrd : s.rd
  simp_all [readOutAfter]

/-- Settles O45: read `k` finds the position at `2 * k`, or the read-out over and its last word latched. -/
theorem readOutReturnsItsPixels : Obligations.ReadOutReturnsItsPixels := by
  intro s n hw hh hactive hstart
  have hpos : 0 < s.rd.rw * s.rd.rh := Nat.mul_pos hw hh
  obtain ⟨hend, hwords⟩ := drain_readOutAfter (n := n) hpos rfl (readOutAfter_zero hpos hactive hstart)
  refine ⟨drain_frame n s, ?_, drain_length n s, fun k hk hin => ?_, fun k hk hout => ?_⟩
  · rw [hend]
    simp only [readOutAfter, decide_eq_true_eq]; omega
  · rw [hwords k hk, show min (0 + k) (readOutWords s.rd - 1) = k by unfold readOutWords; omega]
    simp only [readOutWord, readHalf, readPixel, if_pos (show 2 * k < s.rd.rw * s.rd.rh by omega)]
  · rw [hwords k hk, hwords _ (by omega)]
    unfold readOutWords
    rw [show min (0 + k) ((s.rd.rw * s.rd.rh + 1) / 2 - 1) =
      min (0 + ((s.rd.rw * s.rd.rh + 1) / 2 - 1)) ((s.rd.rw * s.rd.rh + 1) / 2 - 1) by omega]

/-! ## Words given to GP0 -/

/-- Every instruction goes on, in every state (R401). -/
theorem exec_goesOn (i : Instr) (s : State) : goesOn (exec i s) := by
  cases execForm i with
  | keeps _ _ he | polygon _ _ _ he | rectangle _ _ _ he | line _ _ _ _ he | polyline _ _ _ _ he | copy _ _ _ he
  | imageIn _ _ _ _ he | imageOut _ _ _ _ he | info _ _ _ he => exact ⟨_, he s⟩
  | flush e | g1Reset e | g1Abort e => subst e; exact ⟨_, rfl⟩
  | fill o e | setmode o e | settw o e | setclip1 o e | setclip2 o e | setofs o e | setmask o e | g1Dispen o e
  | g1Dmadir o e | g1Origin o e | g1Hrange o e | g1Vrange o e | g1Mode o e => subst e; exact ⟨_, rfl⟩

theorem dispatch_goesOn (s : State) : goesOn (dispatch s) := by
  unfold dispatch
  split
  · exact exec_goesOn ..
  · exact ⟨_, rfl⟩

/-- Every GP0 word is taken (R401). -/
theorem gp0Write_goesOn (w : Word) (s : State) : goesOn (gp0Write w s) := by
  unfold gp0Write
  split
  · unfold gp0Idle
    split
    · exact dispatch_goesOn _
    · exact ⟨_, rfl⟩
  · unfold gp0Filling
    split
    · split
      · exact dispatch_goesOn _
      · exact ⟨_, rfl⟩
    · exact ⟨_, rfl⟩
  · exact ⟨_, rfl⟩

theorem feed_goesOn (ws : List Word) (s : State) : goesOn (feed ws s) := by
  induction ws generalizing s with
  | nil => exact ⟨s, rfl⟩
  | cons w ws ih =>
    obtain ⟨u, hu⟩ := gp0Write_goesOn w s
    rw [feed, hu]
    exact ih u

/-! ## GP0 never writes main memory (R93) -/

theorem locked_mainMem {f : State → State} (hf : ∀ u, (f u).mainMem = u.mainMem) (s : State) :
    (locked f s).mainMem = s.mainMem := by
  rcases locked_cases f s with ⟨-, e⟩ | ⟨-, e⟩ | ⟨-, e⟩ <;> rw [e]
  · exact hf (acquireLock s)
  · exact hf s

theorem exec_mainMem {i : Instr} (hwf : i.wf = true) {s t : State} (h : exec i s = .next t) :
    t.mainMem = s.mainMem := by
  cases exec_effect hwf h with
  | draws hc => show t.control.mainMem = s.control.mainMem; rw [hc]
  | polyline c =>
    refine locked_mainMem (fun u => ?_) s
    unfold polyline; split <;> simp
  | imageIn o => exact locked_mainMem (f := Machine.imageIn o) (fun u => formatSwitch_mainMem o.w u) s
  | imageOut o => rfl
  | info o => rfl
  | reset => exact reportAborted_mainMem s
  | abort => exact reportAborted_mainMem s

theorem imageInWord_mainMem (w : Word) (s : State) : (imageInWord w s).mainMem = s.mainMem := by
  unfold imageInWord imageCount imageHalf
  repeat' split
  all_goals rfl

theorem dataWord_mainMem (w : Word) (s : State) : (dataWord w s).mainMem = s.mainMem := by
  unfold dataWord
  split
  · exact imageInWord_mainMem w s
  · unfold polyFlatWord; split <;> simp
  · unfold polyGouraudWord; split <;> (try split) <;> simp

theorem gp0Write_mainMem {w : Word} {s t : State} (h : gp0Write w s = .next t) : t.mainMem = s.mainMem := by
  cases gp0Write_effect h with
  | received _ hr => rw [hr.frame]
  | dispatched _ hr hi he => rw [exec_mainMem hi he, hr.frame]
  | data _ => exact locked_mainMem (dataWord_mainMem w) s

/-! ## Words forwarded from main memory (R206, R210) -/

/-- Words that are all present are forwarded one after another, then the transfer goes on. -/
theorem forward_eq_feed {a : Nat} {k : State → Out} {ws : List Word} {i : Nat} {s : State}
    (h : ∀ j, j < ws.length → memRead s.mainMem (wordAddr (a + 4 * (i + j))) = ws[j]?) :
    forward a k ws.length i s = andThen (feed ws s) k := by
  induction ws generalizing i s with
  | nil => rfl
  | cons w ws ih =>
    have hfirst : memRead s.mainMem (wordAddr (a + 4 * i)) = some w := h 0 (Nat.zero_lt_succ _)
    obtain ⟨u, hu⟩ := gp0Write_goesOn w s
    rw [List.length_cons, forward, hfirst]
    simp only [hu, feed, andThen_next]
    refine ih fun j hj => ?_
    rw [gp0Write_mainMem hu, ← List.getElem?_cons_succ (a := w), ← h (j + 1) (Nat.succ_lt_succ hj)]
    congr 3
    omega

theorem field_lt (w : Word) (lo n : Nat) : (field w lo n).toNat < 2 ^ n := (field w lo n).isLt

/-- Settles O59: the header, then the payload word by word, then the marker and the link. -/
theorem listNodeIsForwardedThenFollowed : Obligations.ListNodeIsForwardedThenFollowed := by
  intro fuel ptr hdr ws s hhdr hcount hwords
  have hlink : wordAddr (field hdr 0 24).toNat = (field hdr 0 24).toNat / 4 * 4 := by
    have := field_lt hdr 0 24
    unfold wordAddr mainBytes
    rw [Nat.mod_eq_of_lt (by omega)]
  rw [listWalk, hhdr]
  simp only [nodeCount, hcount, hlink]
  rw [forward_eq_feed fun j hj => by rw [Nat.add_comm 1 j]; exact hwords j hj]
  simp only [isLastNode, beq_iff_eq]

/-! ## Block transfers (R206, R207) -/

theorem memRead_isSome_iff (m : Memory) (a : Nat) :
    (memRead m a).isSome = true ↔ ∀ j, j < 4 → (Sparse.get? (a + j) m).isSome = true := by
  unfold memRead
  constructor
  · intro h j hj
    split at h
    · interval_cases j <;> simp_all
    · cases h
  · intro h
    obtain ⟨b0, h0⟩ := Option.isSome_iff_exists.1 (h 0 (by decide))
    obtain ⟨b1, h1⟩ := Option.isSome_iff_exists.1 (h 1 (by decide))
    obtain ⟨b2, h2⟩ := Option.isSome_iff_exists.1 (h 2 (by decide))
    obtain ⟨b3, h3⟩ := Option.isSome_iff_exists.1 (h 3 (by decide))
    rw [Nat.add_zero] at h0
    simp [h0, h1, h2, h3]

/-- A store where a word is mapped: its four bytes, low byte first, and no other (R81). -/
theorem memWrite_spec {m : Memory} {a : Nat} (h : (memRead m a).isSome = true) (w : Word) :
    ∃ m', memWrite m a w = some m' ∧ (∀ j, j < 4 → Sparse.get? (a + j) m' = some (w.extractLsb' (8 * j) 8)) ∧
      ∀ c, (∀ j, j < 4 → c ≠ a + j) → Sparse.get? c m' = Sparse.get? c m := by
  rcases memWrite_cases m a w with ⟨hnone, -⟩ | ⟨-, m', hm, hget⟩
  · simp [hnone] at h
  · refine ⟨m', hm, fun j hj => ?_, fun c hc => ?_⟩
    · rw [hget]
      interval_cases j <;> simp [byteOfWord, field]
    · have h0 := hc 0 (by decide)
      rw [hget, if_neg (hc 3 (by decide)), if_neg (hc 2 (by decide)), if_neg (hc 1 (by decide)), if_neg (by simpa using h0)]

/-- A store unmaps nothing. -/
theorem memRead_isSome_of_memWrite {m m' : Memory} {a c : Nat} {w : Word} (hm : memWrite m a w = some m')
    (h : (memRead m c).isSome = true) : (memRead m' c).isSome = true := by
  rcases memWrite_cases m a w with ⟨-, hnone⟩ | ⟨-, m'', hm', hget⟩
  · rw [hnone] at hm; cases hm
  · obtain rfl : m'' = m' := Option.some.inj (hm'.symm.trans hm)
    rw [memRead_isSome_iff] at h ⊢
    intro j hj
    rw [hget]
    repeat' split
    all_goals first | rfl | exact h j hj

/-- The address of a block's word `k`. -/
def blockAddr (base : Word) (k : Nat) : Nat := wordAddr (wordAddr base.toNat + 4 * k)

/-- Words fewer than 2^22 apart stand at different addresses, and no byte of one is a byte of the other. -/
theorem blockAddr_apart {base : Word} {k k' : Nat} (h : k < k') (hlt : k' < k + 4194304) {j : Nat} (hj : j < 4) :
    blockAddr base k' ≠ (blockAddr base k + j) / 4 * 4 := by
  unfold blockAddr wordAddr mainBytes; omega

/-- `n` words out of the block, its words `i` and up, all of whose addresses are present: the words of `n` reads. -/
theorem blockOut_stores {base : Word} {n i : Nat} {s : State}
    (h : ∀ k, k < n → (memRead s.mainMem (blockAddr base (i + k))).isSome = true) :
    ∃ m, blockOut base n i s = .next { (drain n s).2 with mainMem := m } ∧
      (∀ k j, k < n → n ≤ k + 4194304 → j < 4 → Sparse.get? (blockAddr base (i + k) + j) m =
        ((drain n s).1[k]?).map fun w => w.extractLsb' (8 * j) 8) ∧
      ∀ a, (∀ k, k < n → blockAddr base (i + k) ≠ a / 4 * 4) → Sparse.get? a m = Sparse.get? a s.mainMem := by
  induction n generalizing i s with
  | zero => exact ⟨s.mainMem, rfl, by simp, fun _ _ => rfl⟩
  | succ n ih =>
    obtain ⟨m', hm', hbytes, hrest⟩ := memWrite_spec (h 0 (Nat.zero_lt_succ n)) (gpuRead s).1
    obtain ⟨m, hout, hstored, hkept⟩ := ih (i := i + 1) (s := { (gpuRead s).2 with mainMem := m' }) fun k hk =>
      memRead_isSome_of_memWrite hm' (by rw [Nat.add_right_comm, Nat.add_assoc]; exact h (k + 1) (Nat.succ_lt_succ hk))
    obtain ⟨hwords, hrd⟩ := drain_congr n (s := (gpuRead s).2) (t := { (gpuRead s).2 with mainMem := m' }) rfl rfl
    rw [hwords] at hstored
    refine ⟨m, ?_, fun k j hk hlast hj => ?_, fun a ha => ?_⟩
    · rw [blockOut, show memWrite s.mainMem (wordAddr (wordAddr base.toNat + 4 * i)) (gpuRead s).1 = some m' from hm']
      simp only [hout, drain]
      rw [drain_frame, hrd, drain_frame n (gpuRead s).2]
    · cases k with
      | zero =>
        refine (hkept _ fun k hk => ?_).trans (hbytes j hj)
        exact blockAddr_apart (by omega) (by omega) hj
      | succ k =>
        rw [show i + (k + 1) = i + 1 + k by omega, hstored k j (by omega) (by omega) hj]
        rfl
    · refine (hkept a fun k hk => ?_).trans (hrest a fun j hj hne => ?_)
      · rw [show i + 1 + k = i + (k + 1) by omega]
        exact ha (k + 1) (Nat.succ_lt_succ hk)
      · refine ha 0 (Nat.zero_lt_succ n) ?_
        rw [hne]
        have := wordAddr_aligned (wordAddr base.toNat + 4 * (i + 0))
        unfold blockAddr
        omega

theorem dmaTransfer_eq {base ctrl : Word} {bc bs : BitVec 16} {s u : State} (hfree : s.lock = .free)
    (h : dmaBody base bc bs ctrl (acquireLock s) = .next u) : dmaTransfer base bc bs ctrl s = .next (dmaEnd u) := by
  rw [dmaTransfer, if_pos hfree, h, andThen_next]

/-- Settles O57: out of the block a store per read, into it a GP0 word per word read. -/
theorem blockTransfersMoveTheirWords : Obligations.BlockTransfersMoveTheirWords := by
  refine ⟨fun base ctrl bc bs n s hfree hlist hdir hn hmapped => ?_,
    fun base ctrl bc bs ws s hfree hlist hdir hn hwords => ?_⟩
  · obtain ⟨m, hout, hstored, hkept⟩ := blockOut_stores (base := base) (n := n) (i := 0) (s := acquireLock s)
      fun k hk => by rw [Nat.zero_add]; exact hmapped k hk
    obtain ⟨hdrained, hrd⟩ := drain_congr n (s := s) (t := acquireLock s) rfl rfl
    simp only [Nat.zero_add, hdrained] at hstored hkept
    have hbody : dmaBody base bc bs ctrl (acquireLock s) = blockOut base n 0 (acquireLock s) := by
      simp [dmaBody, hlist, hdir, hn]
    refine ⟨_, dmaTransfer_eq hfree (hbody.trans hout), ?_, hstored, hkept⟩
    rw [drain_frame, hrd]
    simp [dmaEnd, releaseLock, emit, acquireLock, hfree]
  · obtain ⟨u, hu⟩ := feed_goesOn ws (acquireLock s)
    have hbody : dmaBody base bc bs ctrl (acquireLock s) = .next u := by
      simp only [dmaBody, hlist, hdir, blockIn, ← hn, Bool.false_eq_true, if_false, if_true]
      rw [forward_eq_feed fun j hj => ?_, hu, andThen_next]
      rw [Nat.zero_add]
      exact hwords j hj
    refine ⟨u, hu, (dmaTransfer_eq hfree hbody).trans ?_⟩
    simp [dmaEnd, releaseLock, emit]

end Sys2Proof.Machine
end

section
/-! The data words of an image-in (R195, R197): every pixel still to come is stored and tagged once, in order, and the
last word ends the transfer. -/

namespace Sys2Proof.Machine

/-! ## The cells of an image-in (R195) -/

/-- The number of the cell of pixel `k`. -/
def ImageIn.cell (i : ImageIn) (k : Nat) : Nat :=
  cellIndex (i.xx.toNat + k % i.xw : Nat) (i.xy.toNat + k / i.xw : Nat)

/-- The pixels of a rectangle no larger than VRAM have different cells (R77). -/
theorem ImageIn.cell_inj {i : ImageIn} (hw : i.xw ≤ 1024) (hh : i.xh ≤ 512) {k k' : Nat} (hk : k < i.xw * i.xh)
    (hk' : k' < i.xw * i.xh) (h : i.cell k = i.cell k') : k = k' := by
  have hpos : 0 < i.xw := Nat.pos_of_mul_pos_right (Nat.zero_lt_of_lt hk)
  have hcol := Nat.mod_lt k hpos
  have hcol' := Nat.mod_lt k' hpos
  have hrow := Nat.div_lt_of_lt_mul hk
  have hrow' := Nat.div_lt_of_lt_mul hk'
  obtain ⟨hx, hy⟩ := (cellIndex_eq_iff ..).1 h
  rw [← Nat.div_add_mod k i.xw, ← Nat.div_add_mod k' i.xw]
  generalize k % i.xw = c at *
  generalize k' % i.xw = c' at *
  generalize k / i.xw = d at *
  generalize k' / i.xw = d' at *
  rw [show c = c' by omega, show d = d' by omega]

/-- A cell's pixel is its two bytes (R80). -/
theorem Vram.read_congr {v w : Vram} {x y : Int}
    (h : ∀ a, a / 2 = cellIndex x y → vramByte w.native a = vramByte v.native a) : w.read x y = v.read x y := by
  unfold Vram.read cellOf
  rw [h _ (by omega), h _ (by omega)]

theorem Vram.maskedWrite_byte_frame (msk : MaskMode) (v : Vram) (x y : Int) (p : BitVec 16) {a : Nat}
    (ha : a / 2 ≠ cellIndex x y) : vramByte (v.maskedWrite msk x y p).native a = vramByte v.native a := by
  rcases v.maskedWrite_cases msk x y p with ⟨-, -, e⟩ | ⟨-, e⟩ <;> rw [e]
  rw [Vram.write_native, vramByte_setCell, if_neg (by omega), if_neg (by omega)]

/-- A masked write's own cell (R76). -/
theorem Vram.read_maskedWrite_same (msk : MaskMode) (v : Vram) (x y : Int) (p : BitVec 16) :
    (v.maskedWrite msk x y p).read x y =
      if msk.chk && maskBit (v.read x y) then v.read x y else orMask p msk.set := by
  unfold Vram.maskedWrite
  split
  · rfl
  · rw [Vram.read_write, if_pos rfl]

theorem Vram.maskedWrite_tag (msk : MaskMode) (v : Vram) (x y x' y' : Int) (p : BitVec 16) :
    (v.maskedWrite msk x y p).tag x' y' = v.tag x' y' := by
  rcases v.maskedWrite_cases msk x y p with ⟨-, -, e⟩ | ⟨-, e⟩ <;> rw [e]
  rfl

/-! ## Pixels stored one after another -/

/-- `w` is `v` with the pixels from `i.xpos` up to `n` of the image-in `i` stored, pixel `k` given the half word
`half k`: each under the mask mode, each cell tagged in `F24`, and everything else as it was (R195, R197). -/
structure Vram.Stored (msk : MaskMode) (i : ImageIn) (half : Nat → BitVec 16) (v : Vram) (n : Nat) (w : Vram) :
    Prop where
  read : ∀ k, i.xpos ≤ k → k < n →
    w.read (i.xx.toNat + k % i.xw : Nat) (i.xy.toNat + k / i.xw : Nat) =
      if msk.chk && maskBit (v.read (i.xx.toNat + k % i.xw : Nat) (i.xy.toNat + k / i.xw : Nat)) then
        v.read (i.xx.toNat + k % i.xw : Nat) (i.xy.toNat + k / i.xw : Nat)
      else orMask (half k) msk.set
  byte : ∀ a, (∀ k, i.xpos ≤ k → k < n → a / 2 ≠ i.cell k) → vramByte w.native a = vramByte v.native a
  fmt : w.fmt = v.fmt
  tagged : v.fmt = .f24 → ∀ k, i.xpos ≤ k → k < n →
    w.tag (i.xx.toNat + k % i.xw : Nat) (i.xy.toNat + k / i.xw : Nat) = BitVec.ofNat 2 (1 + k % i.xw % 3)
  tag : ∀ x y : Int, (v.fmt = .f15 ∨ ∀ k, i.xpos ≤ k → k < n → cellIndex x y ≠ i.cell k) → w.tag x y = v.tag x y

section
variable {msk : MaskMode} {i : ImageIn} {half : Nat → BitVec 16} {v w : Vram} {n : Nat}

theorem Vram.Stored.refl (h : n ≤ i.xpos) : Vram.Stored msk i half v n v where
  read k h1 h2 := by omega
  byte _ _ := rfl
  fmt := rfl
  tagged _ k h1 h2 := by omega
  tag _ _ _ := rfl

/-- The next pixel stored. -/
theorem Vram.Stored.next (h : Vram.Stored msk i half v n w) (hw : i.xw ≤ 1024) (hh : i.xh ≤ 512) (hstart : i.xpos ≤ n)
    (hn : n < i.xw * i.xh) (r : Nat) : Vram.Stored msk i half v (n + 1) (storePixel msk { i with xpos := n, xrem := r } (half n) w) := by
  have hfresh : ∀ k, k < n → i.cell n ≠ i.cell k := fun k hk hcell => by
    have := ImageIn.cell_inj hw hh hn (by omega) hcell
    omega
  have hold : w.read (i.xx.toNat + n % i.xw : Nat) (i.xy.toNat + n / i.xw : Nat) =
      v.read (i.xx.toNat + n % i.xw : Nat) (i.xy.toNat + n / i.xw : Nat) :=
    Vram.read_congr fun a ha => h.byte a fun k _ hk => by rw [ha]; exact hfresh k hk
  have hbyte : ∀ a, a / 2 ≠ i.cell n →
      vramByte (storePixel msk { i with xpos := n, xrem := r } (half n) w).native a = vramByte w.native a := fun a ha => by
    rw [storePixel, Vram.setTag_native]
    exact Vram.maskedWrite_byte_frame msk w _ _ _ ha
  have htag : ∀ x y : Int, (storePixel msk { i with xpos := n, xrem := r } (half n) w).tag x y =
      if v.fmt = .f24 ∧ cellIndex x y = i.cell n then BitVec.ofNat 2 (1 + n % i.xw % 3) else w.tag x y := fun x y => by
    rw [storePixel, Vram.tag_setTag, Vram.maskedWrite_fmt, Vram.maskedWrite_tag, h.fmt]
    rfl
  refine ⟨fun k hk hkn => ?_, fun a ha => ?_, ?_, fun hf k hk hkn => ?_, fun x y hxy => ?_⟩
  · rcases Nat.lt_succ_iff_lt_or_eq.1 hkn with hlt | rfl
    · rw [← h.read k hk hlt]
      exact Vram.read_congr fun a ha => hbyte a (by rw [ha]; exact (hfresh k hlt).symm)
    · rw [storePixel, Vram.setTag_read, Vram.read_maskedWrite_same, hold]
  · rw [hbyte a (ha n hstart (Nat.lt_succ_self n))]
    exact h.byte a fun k hk hkn => ha k hk (Nat.lt_succ_of_lt hkn)
  · rw [storePixel, Vram.setTag_fmt, Vram.maskedWrite_fmt, h.fmt]
  · rw [htag]
    rcases Nat.lt_succ_iff_lt_or_eq.1 hkn with hlt | rfl
    · rw [if_neg fun hc => hfresh k hlt hc.2.symm, h.tagged hf k hk hlt]
    · rw [if_pos ⟨hf, rfl⟩]
  · rw [htag, if_neg, h.tag x y]
    · exact hxy.imp_right fun hne k hk hkn => hne k hk (Nat.lt_succ_of_lt hkn)
    · rintro ⟨hf, hcell⟩
      rcases hxy with h15 | hne
      · rw [hf] at h15; cases h15
      · exact hne n hstart (Nat.lt_succ_self n) hcell

/-- One half of a data word, at pixel `n`; beyond the last pixel it is dropped (R195). -/
theorem imageHalf_stores {t : State} {r : Nat} {p : BitVec 16} (himg : t.img = { i with xpos := n, xrem := r })
    (h : Vram.Stored t.msk i half v n t.vram) (hw : i.xw ≤ 1024) (hh : i.xh ≤ 512) (hstart : i.xpos ≤ n)
    (hn : n ≤ i.xw * i.xh) (hp : p = half n) :
    ∃ u, Vram.Stored t.msk i half v (min (n + 1) (i.xw * i.xh)) u ∧
      imageHalf p t = { t with vram := u, img := { i with xpos := min (n + 1) (i.xw * i.xh), xrem := r } } := by
  unfold imageHalf
  rw [himg, hp]
  by_cases hlt : n < i.xw * i.xh
  · rw [if_pos hlt, Nat.min_eq_left (show n + 1 ≤ i.xw * i.xh from hlt)]
    exact ⟨_, h.next hw hh hstart hlt r, rfl⟩
  · rw [if_neg hlt, Nat.min_eq_right (show i.xw * i.xh ≤ n + 1 by omega), show i.xw * i.xh = n by omega]
    exact ⟨_, h, by rw [← himg]⟩

end

/-! ## The words of a transfer -/

/-- An image-in under way in `s`, some words later: pixel `n` is the next, `r` words are still to come, and beside the
pixels stored only the count and the trace have changed. -/
structure State.Receiving (s : State) (half : Nat → BitVec 16) (n r : Nat) (t : State) : Prop where
  frame : t = { s with vram := t.vram, img := { s.img with xpos := n, xrem := r }, trace := t.trace }
  stored : Vram.Stored s.msk s.img half s.vram n t.vram
  start : s.img.xpos ≤ n
  even : n % 2 = 0
  count : r = dataWords s.img.xw s.img.xh - n / 2
  more : 1 ≤ r

/-- The image-in of `s` ended: every pixel stored, the target reported, GP0 idle. -/
structure State.Finished (s : State) (half : Nat → BitVec 16) (t : State) : Prop where
  frame : t = { s with vram := t.vram, tpc := t.tpc, dirty := some (bbox s.dirty s.img.target), dstate := .idle,
                       img := t.img, trace := t.trace }
  stored : Vram.Stored s.msk s.img half s.vram (s.img.xw * s.img.xh) t.vram

section
variable {s t : State} {half : Nat → BitVec 16} {n r : Nat}

/-- Both halves of a data word are stored, then the words are counted down (R195). -/
theorem imageInWord_stores (h : s.Receiving half n r t) (hsize : sizeWf s.img.xw s.img.xh = true) {w : Word}
    (hlo : field w 0 16 = half n) (hhi : field w 16 16 = half (n + 1)) :
    ∃ u, Vram.Stored s.msk s.img half s.vram (min (n + 2) (s.img.xw * s.img.xh)) u ∧
      imageInWord w (acquireLock t) = imageCount { acquireLock t with
        vram := u, img := { s.img with xpos := min (n + 2) (s.img.xw * s.img.xh), xrem := r } } := by
  obtain ⟨hframe, hstored, hstart, heven, hcount, hmore⟩ := h
  obtain ⟨⟨-, hw⟩, -, hh⟩ := sizeWf_iff.1 hsize
  have hn : n < s.img.xw * s.img.xh := by unfold dataWords at hcount; omega
  have himg : (acquireLock t).img = { s.img with xpos := n, xrem := r } := by rw [acquireLock_img, hframe]
  have hmsk : (acquireLock t).msk = s.msk := by rw [acquireLock_msk, hframe]
  have hconsistent : (acquireLock t).img.consistent = true := by
    rw [himg]; exact (consistent_iff _).2 ⟨hsize, hn.le, hmore⟩
  have hone : min (n + 1) (s.img.xw * s.img.xh) = n + 1 := Nat.min_eq_left hn
  obtain ⟨v, hv, e⟩ := imageHalf_stores (t := acquireLock t) himg (by rw [hmsk]; exact hstored) hw hh hstart hn.le hlo
  rw [hone] at hv e
  obtain ⟨u, hu, e'⟩ := imageHalf_stores (t := imageHalf (field w 0 16) (acquireLock t)) (r := r) (by rw [e])
    (by rw [e]; exact hv) hw hh (Nat.le_succ_of_le hstart) hn hhi
  refine ⟨u, ?_, ?_⟩
  · rw [e, hmsk] at hu; exact hu
  · rw [imageInWord, if_pos hconsistent, e', e]

/-- A data word in its bracket (R90, R143). -/
theorem gp0Write_imageWord {w : Word} (hd : t.dstate = .extraData) (hx : t.xkind = .imageIn) (hfree : t.lock = .free) :
    gp0Write w t = .next (releaseLock (imageInWord w (acquireLock t))) := by
  simp only [gp0Write, hd, locked_free hfree, dataWord, acquireLock_xkind, hx]

variable (hd : s.dstate = .extraData) (hx : s.xkind = .imageIn) (hfree : s.lock = .free)
  (hsize : sizeWf s.img.xw s.img.xh = true)
include hd hx hfree hsize

/-- A data word that is not the last. -/
theorem receiving_next (h : s.Receiving half n r t) (hr : 1 < r) {w : Word} (hlo : field w 0 16 = half n)
    (hhi : field w 16 16 = half (n + 1)) : ∃ u, gp0Write w t = .next u ∧ s.Receiving half (n + 2) (r - 1) u := by
  obtain ⟨u, hu, e⟩ := imageInWord_stores h hsize hlo hhi
  obtain ⟨hframe, -, hstart, heven, hcount, -⟩ := h
  have hmin : min (n + 2) (s.img.xw * s.img.xh) = n + 2 := by unfold dataWords at hcount; omega
  rw [hmin] at hu e
  refine ⟨_, gp0Write_imageWord (by rw [hframe, hd]) (by rw [hframe, hx]) (by rw [hframe, hfree]), ?_⟩
  rw [e, imageCount, if_neg (show ¬ r - 1 = 0 by omega)]
  refine ⟨?_, hu, by omega, by omega, by omega, by omega⟩
  rw [hframe]
  simp [releaseLock, emit, acquireLock, hfree]

/-- The last data word ends the transfer with its report. -/
theorem receiving_last (h : s.Receiving half n 1 t) {w : Word} (hlo : field w 0 16 = half n)
    (hhi : field w 16 16 = half (n + 1)) : ∃ u, gp0Write w t = .next u ∧ s.Finished half u := by
  obtain ⟨u, hu, e⟩ := imageInWord_stores h hsize hlo hhi
  obtain ⟨hframe, -, hstart, heven, hcount, -⟩ := h
  have hmin : min (n + 2) (s.img.xw * s.img.xh) = s.img.xw * s.img.xh := by unfold dataWords at hcount; omega
  rw [hmin] at hu e
  refine ⟨_, gp0Write_imageWord (by rw [hframe, hd]) (by rw [hframe, hx]) (by rw [hframe, hfree]), ?_⟩
  rw [e, imageCount, if_pos (show 1 - 1 = 0 from rfl)]
  refine ⟨?_, hu.read, hu.byte, hu.fmt, hu.tagged, hu.tag⟩
  rw [report_frame, hframe]
  simp [releaseLock, emit, acquireLock, hfree, ImageIn.target]

/-- Data words one after another, fewer than are to come or all of them. -/
theorem feed_receiving {ws : List Word} (h : s.Receiving half n r t)
    (hwords : ∀ j, j < ws.length → field (wordAt ws j) 0 16 = half (n + 2 * j) ∧
      field (wordAt ws j) 16 16 = half (n + 2 * j + 1)) :
    (ws.length < r → ∃ u, feed ws t = .next u ∧ s.Receiving half (n + 2 * ws.length) (r - ws.length) u) ∧
      (ws.length = r → ∃ u, feed ws t = .next u ∧ s.Finished half u) := by
  induction ws generalizing n r t with
  | nil => exact ⟨fun _ => ⟨t, rfl, h⟩, fun hr => absurd h.more (by simp [← hr])⟩
  | cons w ws ih =>
    have hlo : field w 0 16 = half n := (hwords 0 (Nat.zero_lt_succ _)).1
    have hhi : field w 16 16 = half (n + 1) := (hwords 0 (Nat.zero_lt_succ _)).2
    have htail : ∀ j, j < ws.length → field (wordAt ws j) 0 16 = half (n + 2 + 2 * j) ∧
        field (wordAt ws j) 16 16 = half (n + 2 + 2 * j + 1) := fun j hj => by
      rw [show n + 2 + 2 * j = n + 2 * (j + 1) by omega]
      exact hwords (j + 1) (Nat.succ_lt_succ hj)
    rw [List.length_cons]
    by_cases hr : r = 1
    · subst hr
      refine ⟨fun hlt => by omega, fun hlen => ?_⟩
      obtain rfl : ws = [] := List.length_eq_zero_iff.1 (by omega)
      obtain ⟨u, hu, hfin⟩ := receiving_last hd hx hfree hsize h hlo hhi
      exact ⟨u, by rw [feed, hu]; rfl, hfin⟩
    · have hmore := h.more
      obtain ⟨u, hu, hrec⟩ := receiving_next hd hx hfree hsize h (by omega) hlo hhi
      obtain ⟨hfewer, hall⟩ := ih hrec htail
      rw [feed, hu, andThen_next]
      refine ⟨fun hlt => ?_, fun hlen => hall (by omega)⟩
      rw [show n + 2 * (ws.length + 1) = n + 2 + 2 * ws.length by omega,
        show r - (ws.length + 1) = r - 1 - ws.length by omega]
      exact hfewer (by omega)

end

/-- The half words of a list, two to a word (R82). -/
theorem halfOf_even (ws : List Word) (j : Nat) : halfOf ws (2 * j) = field (wordAt ws j) 0 16 := by
  unfold halfOf
  rw [Nat.mul_div_cancel_left j (by decide), Nat.mul_mod_right]

theorem halfOf_odd (ws : List Word) (j : Nat) : halfOf ws (2 * j + 1) = field (wordAt ws j) 16 16 := by
  unfold halfOf
  rw [show (2 * j + 1) / 2 = j by omega, show (2 * j + 1) % 2 = 1 by omega]

/-- Settles O43: by the words one after another, each storing the next two pixels and the last one reporting. -/
theorem imageInStoresEveryPixel : Obligations.ImageInStoresEveryPixel := by
  intro s ws hs hd hx hfree
  obtain ⟨hc, heven, hcount⟩ := hs.image hd hx
  obtain ⟨hsize, -, hmore⟩ := (consistent_iff _).1 hc
  have hstart : s.Receiving (fun k => halfOf ws (k - s.img.xpos)) s.img.xpos s.img.xrem s :=
    ⟨rfl, .refl (le_refl _), le_refl _, heven, hcount, hmore⟩
  obtain ⟨hfewer, hall⟩ := feed_receiving hd hx hfree hsize hstart (ws := ws) fun j _ => by
    rw [Nat.add_assoc, Nat.add_sub_cancel_left, Nat.add_sub_cancel_left, halfOf_even, halfOf_odd]
    exact ⟨rfl, rfl⟩
  refine ⟨fun hlt => ?_, fun hlen => ?_⟩
  · obtain ⟨t, ht, hrec⟩ := hfewer hlt
    rw [hrec.frame] at ht
    exact ⟨_, ht, hd, hx, rfl, rfl⟩
  · obtain ⟨t, ht, ⟨hframe, hstored⟩⟩ := hall hlen
    have hdirty : t.dirty = some (bbox s.dirty s.img.target) := by rw [hframe]
    refine ⟨t, ht, ?_, hdirty, hstored.read, hstored.byte, hstored.fmt, hstored.tagged, hstored.tag⟩
    rw [hdirty]
    exact hframe

end Sys2Proof.Machine
end

section
/-! What no command can read never matters (R79, R339, R342): every operation commutes with forgetting VRAM's format, its
tags and flags, and the page cache. -/

namespace Sys2Proof.Machine

/-! ## Forgetting what no command can read (R417) -/

/-- VRAM with its format, tags and flags forgotten. -/
def Vram.seen (v : Vram) : Vram := ⟨v.native, .f15, [], []⟩

/-- The state with everything forgotten that no command can read. -/
def State.seen (s : State) : State := { s with tpc := [], vram := s.vram.seen }

theorem sameSeen_iff (s t : State) : sameSeen s t ↔ t.seen = s.seen := by
  constructor
  · intro h
    rw [h]; rfl
  · intro h
    have hframe : ∀ u : State, u = { u.seen with tpc := u.tpc, vram := { u.vram with native := u.seen.vram.native } } :=
      fun _ => rfl
    rw [sameSeen, hframe t, h]; rfl

/-- An outcome with everything forgotten that no command can read. -/
def seenOut : Out → Out
  | .next s => .next s.seen
  | .fault r => .fault r
  | .refused r => .refused r

/-- An operation of the state that what is forgotten does not matter to. -/
def Blind (f : State → State) : Prop := ∀ s, (f s).seen = (f s.seen).seen

/-- A call or command that what is forgotten does not matter to. -/
def BlindOut (f : State → Out) : Prop := ∀ s, seenOut (f s) = seenOut (f s.seen)

theorem Blind.eq {f : State → State} (hf : Blind f) {s t : State} (h : s.seen = t.seen) : (f s).seen = (f t).seen := by
  rw [hf s, h, ← hf t]

theorem BlindOut.eq {f : State → Out} (hf : BlindOut f) {s t : State} (h : s.seen = t.seen) :
    seenOut (f s) = seenOut (f t) := by
  rw [hf s, h, ← hf t]

theorem Blind.comp {f g : State → State} (hg : Blind g) (hf : Blind f) : Blind fun s => g (f s) :=
  fun s => hg.eq (hf s)

/-- An operation whose whole effect is on what is forgotten. -/
theorem blind_of_unseen {f : State → State} (h : ∀ s, (f s).seen = s.seen) : Blind f := fun s => by
  rw [h, h]; rfl

theorem Blind.next {f : State → State} (hf : Blind f) : BlindOut fun s => .next (f s) :=
  fun s => congrArg Host.Outcome.next (hf s)

theorem BlindOut.comp {g : State → Out} {f : State → State} (hg : BlindOut g) (hf : Blind f) :
    BlindOut fun s => g (f s) := fun s => hg.eq (hf s)

theorem BlindOut.seenOut_andThen {g : State → Out} (hg : BlindOut g) (o : Out) :
    seenOut (andThen o g) = seenOut (andThen (seenOut o) g) := by
  cases o with
  | next s => exact hg s
  | fault r => rfl
  | refused r => rfl

theorem BlindOut.andThen {f g : State → Out} (hf : BlindOut f) (hg : BlindOut g) :
    BlindOut fun s => andThen (f s) g := fun s => by
  rw [hg.seenOut_andThen (f s), hf s, ← hg.seenOut_andThen (f s.seen)]

theorem Blind.locked {f : State → State} (hf : Blind f) : Blind (locked f) := fun s => by
  have hlock : s.seen.lock = s.lock := rfl
  unfold Machine.locked
  rw [hlock]
  cases s.lock with
  | free => exact congrArg releaseLock (hf (acquireLock s))
  | block => exact hf s
  | sink => rfl

/-! ## VRAM's operations: the native view comes from the native view -/

/-- Two writes of VRAM that agree on the native view. -/
theorem seen_with_vram (s : State) {v w : Vram} (h : v.native = w.native) :
    ({ s with vram := v } : State).seen = ({ s.seen with vram := w } : State).seen := by
  simp [State.seen, Vram.seen, h]

theorem write_native_congr {v w : Vram} (h : v.native = w.native) (x y : Int) (p : BitVec 16) :
    (v.write x y p).native = (w.write x y p).native := by rw [Vram.write_native, Vram.write_native, h]

theorem maskedWrite_native_congr (msk : MaskMode) {v w : Vram} (h : v.native = w.native) (x y : Int) (p : BitVec 16) :
    (v.maskedWrite msk x y p).native = (w.maskedWrite msk x y p).native := by
  unfold Vram.maskedWrite
  rw [show v.read x y = w.read x y by rw [Vram.read, h]; rfl]
  split
  · exact h
  · exact write_native_congr h ..

/-- A run of writes, step by step. -/
theorem foldl_native_congr {α : Type} {f g : Vram → α → Vram}
    (hfg : ∀ v w : Vram, v.native = w.native → ∀ a, (f v a).native = (g w a).native) (l : List α) {v w : Vram}
    (h : v.native = w.native) : (l.foldl f v).native = (l.foldl g w).native := by
  induction l generalizing v w with
  | nil => exact h
  | cons a l ih => exact ih (hfg v w h a)

theorem fillBlock_native_congr (p : BitVec 16) (x y w h : Nat) {u v : Vram} (e : u.native = v.native) :
    (fillBlock p x y w h u).native = (fillBlock p x y w h v).native := by
  unfold fillBlock
  refine foldl_native_congr (fun _ _ h' ij => ?_) _ e
  exact write_native_congr h' ..

theorem copyBlock_native_congr (msk : MaskMode) (o : Copy) {v w : Vram} (h : v.native = w.native) :
    (copyBlock msk o v).native = (copyBlock msk o w).native := by
  have hread : ∀ x y : Int, v.read x y = w.read x y := fun x y => by rw [Vram.read, h]; rfl
  refine foldl_native_congr (fun _ _ h' ij => ?_) _ h
  rw [hread]
  exact maskedWrite_native_congr msk h' ..

theorem storePixel_native_congr (msk : MaskMode) (i : ImageIn) (p : BitVec 16) {v w : Vram}
    (h : v.native = w.native) : (storePixel msk i p v).native = (storePixel msk i p w).native := by
  unfold storePixel
  rw [Vram.setTag_native, Vram.setTag_native]
  exact maskedWrite_native_congr msk h ..

/-! ## The drawing commands -/

theorem beginTexture_seen (k : ClutSel) (s : State) : (beginTexture k s).seen = s.seen := by
  rw [beginTexture_frame]
  simp [State.seen, Vram.seen]

theorem blind_drawPixels (textured raw semi : Bool) (k : ClutSel) (ps : List Pixel) :
    Blind (drawPixels textured raw semi k ps) := fun s => seen_with_vram s (plotAll_native _ ps rfl)

theorem blind_report (r : Rect) : Blind (report r) := fun _ => rfl

theorem blind_reportIfAny (r : Rect) : Blind (reportIfAny r) := fun s => by
  unfold reportIfAny; split <;> rfl

theorem blind_drawPrimitive (textured raw semi : Bool) (k : ClutSel) (ps : List Pixel) :
    Blind (drawPrimitive textured raw semi k ps) := by
  refine (blind_drawPixels textured raw semi k ps).comp fun s => ?_
  split
  · exact blind_of_unseen (beginTexture_seen k) s
  · rfl

theorem blind_writeMode (c : PolyCmd) : Blind c.writeMode := fun s => by
  unfold PolyCmd.writeMode; split <;> rfl

theorem blind_polygonDraw (c : PolyCmd) : Blind c.draw := fun s => by
  unfold PolyCmd.draw
  rw [mod16Check_eq, mod16Check_eq]
  exact (blind_reportIfAny _).eq (blind_drawPrimitive _ _ _ _ _ s)

theorem blind_polygon (c : PolyCmd) : Blind (polygon c) := fun s => by
  unfold polygon
  rw [show s.seen.clip = s.clip from rfl]
  split
  · exact blind_writeMode c s
  · exact (blind_polygonDraw c).eq (blind_writeMode c s)

theorem blind_rectangle (c : RectCmd) : Blind (rectangle c) := fun s => by
  unfold rectangle
  rw [show s.seen.clip = s.clip from rfl]
  split
  · rfl
  · unfold RectCmd.draw
    rw [mod16Check_eq, mod16Check_eq]
    exact (blind_reportIfAny _).eq (blind_drawPrimitive _ _ _ _ _ s)

theorem blind_segment (p0 p1 : Int × Int) (c0 c1 : Rgb) (semi : Bool) : Blind (segment p0 p1 c0 c1 semi) := fun s => by
  unfold segment
  rw [show s.seen.clip = s.clip from rfl]
  split
  · exact (blind_report _).eq (blind_drawPixels _ _ _ _ _ s)
  · rfl

theorem blind_raiseDiag (k : DiagKind) : Blind (raiseDiag k) := fun s => by
  unfold raiseDiag
  rw [show s.seen.diag k = s.diag k by cases k <;> rfl]
  split
  · rfl
  · cases k <;> rfl

theorem blind_polyline (kind : XKind) (c : LineCmd) : Blind (polyline kind c) := fun s => by
  have hopen : Blind (openPolyline kind (vertex s.ofs c.v1) c.c1) := fun _ => rfl
  refine hopen.eq ((blind_segment _ _ _ _ _).eq ?_)
  split
  · exact blind_raiseDiag _ s
  · rfl

theorem blind_fill (o : Fill) : Blind (fill o) := fun s => by
  unfold fill
  split
  · rfl
  · exact (blind_report _).eq (seen_with_vram s (fillBlock_native_congr _ _ _ _ _ rfl))

theorem blind_vcopy (o : Copy) : Blind (vcopy o) :=
  fun s => (blind_report _).eq (seen_with_vram s (copyBlock_native_congr s.msk o rfl))

theorem formatSwitch_seen (n : Nat) (s : State) : (formatSwitch n s).seen = s.seen := by
  unfold formatSwitch
  split
  · rfl
  · simp [State.seen, Vram.seen]

theorem blind_imageIn (o : Xfer) : Blind (imageIn o) := by
  have hopen : Blind fun s => { s with
      img := ⟨o.x, o.y, o.w, o.h, 0, dataWords o.w o.h⟩, xkind := .imageIn, dstate := .extraData } := fun _ => rfl
  exact hopen.comp (blind_of_unseen (formatSwitch_seen o.w))

/-! ## GP1, instructions -/

theorem blind_reportAborted : Blind reportAborted := fun s => by
  unfold reportAborted
  rw [show s.seen.dstate = s.dstate from rfl, show s.seen.xkind = s.xkind from rfl]
  split <;> rfl

theorem blind_softReset : Blind softReset := fun _ => rfl

theorem blind_decideRefresh : Blind decideRefresh := fun s => by
  have hwants : wantsRefresh Config.tDirtyNs Config.tLiveNs s.seen = wantsRefresh Config.tDirtyNs Config.tLiveNs s := rfl
  unfold decideRefresh decideWith
  rw [hwants]
  split <;> rfl

theorem blindOut_exec (i : Instr) : BlindOut (exec i) := by
  have is : ∀ {f : State → State}, (∀ s, exec i s = .next (f s)) → Blind f → BlindOut (exec i) := fun he hf => by
    rw [funext he]; exact hf.next
  have idle : Blind fun s => { s with dstate := .idle, clen := 0 } := fun _ => rfl
  cases execForm i with
  | keeps _ _ he => exact is he fun _ => rfl
  | flush e => subst e; exact fun _ => rfl
  | fill o e => subst e; exact (blind_fill o).locked.next
  | polygon c _ _ he => exact is he (blind_polygon c).locked
  | rectangle c _ _ he => exact is he (blind_rectangle c).locked
  | line c _ _ _ he => exact is he (Blind.locked fun s => blind_segment _ _ _ _ _ s)
  | polyline c _ _ _ he => exact is he (blind_polyline _ c).locked
  | copy o _ _ he => exact is he (blind_vcopy o).locked
  | imageIn o _ _ _ he => exact is he (blind_imageIn o).locked
  | imageOut o _ _ _ he => exact is he fun _ => rfl
  | g1Reset e => subst e; exact (blind_softReset.comp blind_reportAborted).next
  | g1Abort e => subst e; exact (idle.comp blind_reportAborted).next
  | g1Origin o e => subst e; exact (blind_decideRefresh.comp fun _ => rfl).next
  | info o _ _ he => exact is he fun _ => rfl
  | setmode o e | settw o e | setclip1 o e | setclip2 o e | setofs o e | setmask o e | g1Dispen o e
  | g1Dmadir o e | g1Hrange o e | g1Vrange o e | g1Mode o e => subst e; exact fun _ => rfl

/-! ## Words -/

theorem blind_imageHalf (p : BitVec 16) : Blind (imageHalf p) := fun s => by
  unfold imageHalf
  rw [show s.seen.img = s.img from rfl]
  split
  · exact seen_with_vram { s with img := { s.img with xpos := s.img.xpos + 1 } } (storePixel_native_congr s.msk _ _ rfl)
  · rfl

theorem blind_imageCount : Blind imageCount := fun s => by
  unfold imageCount
  rw [show s.seen.img = s.img from rfl]
  split <;> rfl

theorem blind_imageInWord (w : Word) : Blind (imageInWord w) := fun s => by
  unfold imageInWord
  rw [show s.seen.img = s.img from rfl]
  split
  · exact blind_imageCount.eq ((blind_imageHalf _).eq (blind_imageHalf _ s))
  · rfl

theorem blind_polyFlatWord (w : Word) : Blind (polyFlatWord w) := fun s => by
  have hpline : ∀ p, Blind fun u => { u with pline := p } := fun _ _ => rfl
  unfold polyFlatWord
  split
  · rfl
  · exact (hpline _).eq (blind_segment _ _ _ _ _ s)

theorem blind_polyGouraudWord (w : Word) : Blind (polyGouraudWord w) := fun s => by
  have hpline : ∀ p, Blind fun u => { u with pline := p } := fun _ _ => rfl
  unfold polyGouraudWord
  rw [show s.seen.pline = s.pline from rfl]
  split
  · split <;> rfl
  · exact (hpline _).eq (blind_segment _ _ _ _ _ s)

theorem blind_dataWord (w : Word) : Blind (dataWord w) := fun s => by
  unfold dataWord
  rw [show s.seen.xkind = s.xkind from rfl]
  split
  · exact blind_imageInWord w s
  · exact blind_polyFlatWord w s
  · exact blind_polyGouraudWord w s

theorem blindOut_dispatch : BlindOut dispatch := fun s => by
  unfold dispatch
  rw [show s.seen.cbuf = s.cbuf from rfl, show s.seen.clen = s.clen from rfl]
  split
  · exact blindOut_exec _ s
  · rfl

theorem blindOut_gp0Idle (w : Word) : BlindOut (gp0Idle w) := fun s => by
  unfold gp0Idle
  split
  · exact blindOut_dispatch.eq rfl
  · rfl

theorem blindOut_gp0Filling (w : Word) : BlindOut (gp0Filling w) := fun s => by
  unfold gp0Filling
  rw [show s.seen.fillingOk = s.fillingOk from rfl, show s.seen.clen = s.clen from rfl,
    show s.seen.ctarget = s.ctarget from rfl]
  split
  · split
    · exact blindOut_dispatch.eq rfl
    · rfl
  · rfl

theorem blindOut_gp0Write (w : Word) : BlindOut (gp0Write w) := fun s => by
  unfold gp0Write
  rw [show s.seen.dstate = s.dstate from rfl]
  split
  · exact blindOut_gp0Idle w s
  · exact blindOut_gp0Filling w s
  · exact (blind_dataWord w).locked.next s

/-! ## Reads and DMA -/

theorem gpuRead_seen (s : State) : (gpuRead s.seen).1 = (gpuRead s).1 ∧ (gpuRead s.seen).2 = (gpuRead s).2.seen := by
  unfold gpuRead
  rw [show s.seen.rd = s.rd from rfl]
  split <;> exact ⟨rfl, rfl⟩

theorem blindOut_forward (a : Nat) {k : State → Out} (hk : BlindOut k) (n i : Nat) : BlindOut (forward a k n i) := by
  induction n generalizing i with
  | zero => exact hk
  | succ n ih =>
    intro s
    rw [forward, forward, show s.seen.mainMem = s.mainMem from rfl]
    split
    · rfl
    · exact (blindOut_gp0Write _).andThen (ih (i + 1)) s

theorem blindOut_blockOut (base : Word) (n i : Nat) : BlindOut (blockOut base n i) := by
  induction n generalizing i with
  | zero => exact fun _ => rfl
  | succ n ih =>
    intro s
    obtain ⟨hword, hread⟩ := gpuRead_seen s
    rw [blockOut, blockOut, show s.seen.mainMem = s.mainMem from rfl, hword, hread]
    split
    · rfl
    · exact (ih (i + 1)).eq rfl

theorem blindOut_listWalk (fuel ptr : Nat) : BlindOut (listWalk fuel ptr) := by
  induction fuel generalizing ptr with
  | zero => exact fun _ => rfl
  | succ fuel ih =>
    intro s
    rw [listWalk, listWalk, show s.seen.mainMem = s.mainMem from rfl]
    split
    · rfl
    · refine blindOut_forward _ (fun t => ?_) _ _ s
      split
      · rfl
      · exact ih _ t

theorem blindOut_dmaBody (base : Word) (bc bs : BitVec 16) (ctrl : Word) : BlindOut (dmaBody base bc bs ctrl) :=
  fun s => by
    unfold dmaBody
    split
    · exact blindOut_listWalk _ _ s
    · split
      · exact blindOut_forward (k := .next) _ (fun _ => rfl) _ _ s
      · exact blindOut_blockOut _ _ _ s

theorem blindOut_dmaTransfer (base : Word) (bc bs : BitVec 16) (ctrl : Word) :
    BlindOut (dmaTransfer base bc bs ctrl) := fun s => by
  have hend : BlindOut fun t => .next (dmaEnd t) := fun _ => rfl
  have hacquire : Blind acquireLock := fun _ => rfl
  unfold dmaTransfer
  rw [show s.seen.lock = s.lock from rfl]
  split
  · exact (((blindOut_dmaBody base bc bs ctrl).comp hacquire).andThen hend) s
  · rfl

/-! ## One step -/

theorem blindOut_runCall (c : Call) : BlindOut (runCall c) := by
  cases c with
  | gp0Write w => exact blindOut_gp0Write w
  | gp1Write w => exact blindOut_exec _
  | gpuRead =>
    intro s
    obtain ⟨hword, hread⟩ := gpuRead_seen s
    simp only [runCall, hword, hread]
    rfl
  | dmaTransfer base bc bs ctrl => exact blindOut_dmaTransfer base bc bs ctrl
  | vsyncTick => exact (blind_decideRefresh.comp fun _ => rfl).next
  | sinkAcquire =>
    intro s
    simp only [runCall, show s.seen.lock = s.lock from rfl]
    split <;> rfl
  | sinkRelease =>
    intro s
    simp only [runCall, show s.seen.lock = s.lock from rfl]
    split <;> rfl
  | gpuStat | clock | memStore | memUnmap => exact fun _ => rfl

theorem blindOut_step : BlindOut step := fun s => by
  have hwait : ∀ c, mustWait c s.seen = mustWait c s := fun c => by cases c <;> rfl
  unfold step nextCall
  rw [show s.seen.calls = s.calls from rfl]
  split
  · rfl
  · next c rest _ =>
    rw [hwait]
    split
    · unfold whileWaiting
      rw [show s.seen.lock = s.lock from rfl, show s.seen.calls = s.calls from rfl]
      split <;> rfl
    · exact (blindOut_runCall c).eq rfl

/-- Settles O12: a step's outcome, as far as a command can read it, is that of the state as far as a command can read
it. -/
theorem hiddenStateIsInvisible : Obligations.HiddenStateIsInvisible := by
  intro s s' t hsame h
  have hstep : seenOut (step s') = .next t.seen := by
    rw [blindOut_step.eq ((sameSeen_iff s s').1 hsame), h]; rfl
  cases hs : step s' with
  | next t' =>
    rw [hs] at hstep
    exact ⟨t', rfl, (sameSeen_iff t t').2 (Host.Outcome.next.inj hstep)⟩
  | fault r => rw [hs] at hstep; cases hstep
  | refused r => rw [hs] at hstep; cases hstep

end Sys2Proof.Machine
end

section
/-! Encoding and decoding (R110 to R133): the fields of a word written are the fields read, and an instruction is
determined by its port, its opcode and its operands. -/

namespace Sys2Proof

/-! ## The fields of a word that was written field by field (R113 to R118, R122 to R127) -/

@[simp] theorem wordAt_cons_zero (w : Word) (ws : List Word) : wordAt (w :: ws) 0 = w := rfl

@[simp] theorem wordAt_cons_succ (w : Word) (ws : List Word) (n : Nat) : wordAt (w :: ws) (n + 1) = wordAt ws n := rfl

@[simp] theorem Rgb.ofWord_append (hi : BitVec 8) (c : Rgb) : Rgb.ofWord (hi ++ c.bits) = c := by
  simp (disch := decide) only [Rgb.ofWord, Rgb.bits, field, BitVec.extractLsb'_append_eq_of_le,
    BitVec.extractLsb'_append_eq_of_add_le, BitVec.extractLsb'_eq_self, Nat.reduceSub]

@[simp] theorem Rgb.ofWord_cmd (op : BitVec 8) (c : Rgb) : Rgb.ofWord (cmd op c.bits) = c := Rgb.ofWord_append op c

@[simp] theorem Vtx.ofWord_word (v : Vtx) : Vtx.ofWord v.word = v := by
  simp (disch := decide) only [Vtx.ofWord, Vtx.word, field, BitVec.extractLsb'_append_eq_of_le,
    BitVec.extractLsb'_append_eq_of_add_le, BitVec.extractLsb'_eq_self, Nat.reduceSub]

@[simp] theorem Uv.ofWord_append (hi : BitVec 16) (t : Uv) : Uv.ofWord (hi ++ t.bits) = t := by
  simp (disch := decide) only [Uv.ofWord, Uv.bits, field, BitVec.extractLsb'_append_eq_of_le,
    BitVec.extractLsb'_append_eq_of_add_le, BitVec.extractLsb'_eq_self, Nat.reduceSub]

@[simp] theorem ClutSel.ofWord_append (k : ClutSel) (lo : BitVec 16) : ClutSel.ofWord (k.bits ++ lo) = k := by
  simp (disch := decide) only [ClutSel.ofWord, ClutSel.bits, field, BitVec.extractLsb'_append_eq_of_le,
    BitVec.extractLsb'_append_eq_of_add_le, BitVec.extractLsb'_eq_self, Nat.reduceSub]

@[simp] theorem PageAttr.ofTex_append (hi : BitVec 7) (a : PageAttr) (lo : BitVec 16) :
    PageAttr.ofTex (hi ++ a.bits ++ lo) = a := by
  simp (disch := decide) only [PageAttr.ofTex, PageAttr.bits, field, BitVec.extractLsb'_append_eq_of_le,
    BitVec.extractLsb'_append_eq_of_add_le, BitVec.extractLsb'_eq_self, Nat.reduceSub]

@[simp] theorem field_sizeWord_x (x : BitVec 10) (y : BitVec 9) : field (sizeWord x y) 0 10 = x := by
  simp (disch := decide) only [sizeWord, field, BitVec.extractLsb'_append_eq_of_add_le, BitVec.extractLsb'_eq_self]

@[simp] theorem field_sizeWord_y (x : BitVec 10) (y : BitVec 9) : field (sizeWord x y) 16 9 = y := by
  simp (disch := decide) only [sizeWord, field, BitVec.extractLsb'_append_eq_of_le,
    BitVec.extractLsb'_append_eq_of_add_le, BitVec.extractLsb'_eq_self, Nat.reduceSub]

/-! ## Sizes (R123, R124) -/

/-- Of the sixteen bits of a width the upper six do not matter, of those of a height the upper seven (R124). -/
theorem sizeField_field (w : Word) :
    sizeField 1024 (field w 0 16).toNat = sizeField 1024 (field w 0 10).toNat ∧
      sizeField 512 (field w 16 16).toNat = sizeField 512 (field w 16 9).toNat := by
  simp only [sizeField, field, BitVec.extractLsb'_toNat]
  omega

/-- The maximum is written as 0 and read back (R124). -/
theorem sizeField_mod {w h : Nat} (hwf : sizeWf w h = true) :
    sizeField 1024 (w % 1024) = w ∧ sizeField 512 (h % 512) = h := by
  obtain ⟨hw, hh⟩ := Machine.sizeWf_iff.1 hwf
  unfold sizeField
  omega

theorem fillX_mod {x : Nat} (h16 : x % 16 = 0) (hx : x < 1024) : fillX (x % 1024) = x := by
  unfold fillX
  omega

theorem fillW_fillWidthField {w : Nat} (h16 : w % 16 = 0) (hw : w ≤ 1024) : fillW (fillWidthField w).toNat = w := by
  unfold fillWidthField
  split
  · next h => rw [h]; rfl
  · simp only [fillW, BitVec.toNat_ofNat]
    omega

theorem Fill.wf_iff (o : Fill) : o.wf = true ↔ (o.x % 16 = 0 ∧ o.x < 1024) ∧ o.w % 16 = 0 ∧ o.w ≤ 1024 := by
  simp [Fill.wf]

/-! ## One-word commands (R126, R127) -/

section
variable (op : BitVec 8)

@[simp] theorem SetMode.ofWord_cmd (o : SetMode) :
    SetMode.ofWord (cmd op (0#13 ++ bit o.dfe ++ bit o.dtd ++ o.page.bits)) = o := by
  simp (disch := decide) only [SetMode.ofWord, PageAttr.ofMode, PageAttr.bits, cmd, bit, field, flagBit,
    BitVec.extractLsb'_append_eq_of_le, BitVec.extractLsb'_append_eq_of_add_le, BitVec.extractLsb'_eq_self,
    Nat.reduceSub, BitVec.getLsbD_append]
  simp

@[simp] theorem SetTw.ofWord_cmd (o : SetTw) : SetTw.ofWord (cmd op (0#4 ++ o.oy ++ o.ox ++ o.my ++ o.mx)) = o := by
  simp (disch := decide) only [SetTw.ofWord, cmd, field, BitVec.extractLsb'_append_eq_of_le,
    BitVec.extractLsb'_append_eq_of_add_le, BitVec.extractLsb'_eq_self, Nat.reduceSub]

@[simp] theorem SetClip.ofWord_cmd (o : SetClip) : SetClip.ofWord (cmd op (0#5 ++ o.y ++ o.x)) = o := by
  simp (disch := decide) only [SetClip.ofWord, cmd, field, BitVec.extractLsb'_append_eq_of_le,
    BitVec.extractLsb'_append_eq_of_add_le, BitVec.extractLsb'_eq_self, Nat.reduceSub]

@[simp] theorem SetOfs.ofWord_cmd (o : SetOfs) : SetOfs.ofWord (cmd op (0#2 ++ o.y ++ o.x)) = o := by
  simp (disch := decide) only [SetOfs.ofWord, cmd, field, BitVec.extractLsb'_append_eq_of_le,
    BitVec.extractLsb'_append_eq_of_add_le, BitVec.extractLsb'_eq_self, Nat.reduceSub]

@[simp] theorem SetMask.ofWord_cmd (o : SetMask) :
    SetMask.ofWord (cmd op (0#22 ++ bit o.chkBit ++ bit o.setBit)) = o := by
  simp only [SetMask.ofWord, cmd, bit, flagBit, BitVec.getLsbD_append]
  simp

@[simp] theorem DispEn.ofWord_cmd (o : DispEn) : DispEn.ofWord (cmd op (0#23 ++ bit o.off)) = o := by
  simp only [DispEn.ofWord, cmd, bit, flagBit, BitVec.getLsbD_append]
  simp

@[simp] theorem DmaDir.ofWord_cmd (o : DmaDir) : DmaDir.ofWord (cmd op (0#22 ++ o.dir)) = o := by
  simp (disch := decide) only [DmaDir.ofWord, cmd, field, BitVec.extractLsb'_append_eq_of_add_le,
    BitVec.extractLsb'_eq_self]

@[simp] theorem Origin.ofWord_cmd (o : Origin) : Origin.ofWord (cmd op (0#5 ++ o.y ++ o.x)) = o := by
  simp (disch := decide) only [Origin.ofWord, cmd, field, BitVec.extractLsb'_append_eq_of_le,
    BitVec.extractLsb'_append_eq_of_add_le, BitVec.extractLsb'_eq_self, Nat.reduceSub]

@[simp] theorem HRange.ofWord_cmd (o : HRange) : HRange.ofWord (cmd op (o.x2 ++ o.x1)) = o := by
  simp (disch := decide) only [HRange.ofWord, cmd, field, BitVec.extractLsb'_append_eq_of_le,
    BitVec.extractLsb'_append_eq_of_add_le, BitVec.extractLsb'_eq_self, Nat.reduceSub]

@[simp] theorem VRange.ofWord_cmd (o : VRange) : VRange.ofWord (cmd op (0#4 ++ o.y2 ++ o.y1)) = o := by
  simp (disch := decide) only [VRange.ofWord, cmd, field, BitVec.extractLsb'_append_eq_of_le,
    BitVec.extractLsb'_append_eq_of_add_le, BitVec.extractLsb'_eq_self, Nat.reduceSub]

@[simp] theorem Mode.ofWord_cmd (o : Mode) :
    Mode.ofWord (cmd op (0#16 ++ bit o.rev ++ bit o.hres2 ++ bit o.ilace ++ bit o.c24 ++ bit o.pal ++ bit o.vres ++
      o.hres1)) = o := by
  simp (disch := decide) only [Mode.ofWord, cmd, bit, field, flagBit, BitVec.extractLsb'_append_eq_of_add_le,
    BitVec.extractLsb'_eq_self, Nat.reduceSub, BitVec.getLsbD_append]
  simp

@[simp] theorem Info.ofWord_cmd (o : Info) : Info.ofWord (cmd op (0#21 ++ o.index)) = o := by
  simp (disch := decide) only [Info.ofWord, cmd, field, BitVec.extractLsb'_append_eq_of_add_le,
    BitVec.extractLsb'_eq_self]

end

/-! ## An instruction's operands, read back from its words -/

/-- The operands of the layout of `o` that a command's words hold (R113 to R127). -/
def Operands.reread (o : Operands) (ws : List Word) : Operands :=
  match o with
  | .none => .none
  | .fill _ => .fill (.ofWords ws)
  | .flatTri _ => .flatTri (.ofWords ws)
  | .flatTriTex _ => .flatTriTex (.ofWords ws)
  | .flatQuad _ => .flatQuad (.ofWords ws)
  | .flatQuadTex _ => .flatQuadTex (.ofWords ws)
  | .gourTri _ => .gourTri (.ofWords ws)
  | .gourTriTex _ => .gourTriTex (.ofWords ws)
  | .gourQuad _ => .gourQuad (.ofWords ws)
  | .gourQuadTex _ => .gourQuadTex (.ofWords ws)
  | .flatLine _ => .flatLine (.ofWords ws)
  | .gourLine _ => .gourLine (.ofWords ws)
  | .rectVar _ => .rectVar (.ofWords ws)
  | .rectVarTex _ => .rectVarTex (.ofWords ws)
  | .rectFix _ => .rectFix (.ofWords ws)
  | .rectFixTex _ => .rectFixTex (.ofWords ws)
  | .copy _ => .copy (.ofWords ws)
  | .xfer _ => .xfer (.ofWords ws)
  | .setMode _ => .setMode (.ofWord (wordAt ws 0))
  | .setTw _ => .setTw (.ofWord (wordAt ws 0))
  | .setClip _ => .setClip (.ofWord (wordAt ws 0))
  | .setOfs _ => .setOfs (.ofWord (wordAt ws 0))
  | .setMask _ => .setMask (.ofWord (wordAt ws 0))
  | .dispEn _ => .dispEn (.ofWord (wordAt ws 0))
  | .dmaDir _ => .dmaDir (.ofWord (wordAt ws 0))
  | .origin _ => .origin (.ofWord (wordAt ws 0))
  | .hRange _ => .hRange (.ofWord (wordAt ws 0))
  | .vRange _ => .vRange (.ofWord (wordAt ws 0))
  | .mode _ => .mode (.ofWord (wordAt ws 0))
  | .info _ => .info (.ofWord (wordAt ws 0))

/-- The words of well-formed operands hold those operands, whatever follows them. -/
theorem Operands.reread_words {o : Operands} (hwf : o.wf = true) (op : BitVec 8) (rest : List Word) :
    o.reread (o.words op ++ rest) = o := by
  cases o with
  | none => rfl
  | fill o =>
    obtain ⟨⟨hx16, hx⟩, hw16, hw⟩ := o.wf_iff.1 hwf
    simp [reread, words, Fill.ofWords, fillX_mod hx16 hx, fillW_fillWidthField hw16 hw]
  | copy o => simp [reread, words, Copy.ofWords, sizeField_field, sizeField_mod hwf]
  | xfer o => simp [reread, words, Xfer.ofWords, sizeField_field, sizeField_mod hwf]
  | flatTri o => simp [reread, words, FlatTri.ofWords]
  | flatTriTex o => simp [reread, words, FlatTriTex.ofWords]
  | flatQuad o => simp [reread, words, FlatQuad.ofWords]
  | flatQuadTex o => simp [reread, words, FlatQuadTex.ofWords]
  | gourTri o => simp [reread, words, GourTri.ofWords]
  | gourTriTex o => simp [reread, words, GourTriTex.ofWords]
  | gourQuad o => simp [reread, words, GourQuad.ofWords]
  | gourQuadTex o => simp [reread, words, GourQuadTex.ofWords]
  | flatLine o => simp [reread, words, FlatLine.ofWords]
  | gourLine o => simp [reread, words, GourLine.ofWords]
  | rectVar o => simp [reread, words, RectVar.ofWords]
  | rectVarTex o => simp [reread, words, RectVarTex.ofWords]
  | rectFix o => simp [reread, words, RectFix.ofWords]
  | rectFixTex o => simp [reread, words, RectFixTex.ofWords]
  | setMode | setTw | setClip | setOfs | setMask | dispEn | dmaDir | origin | hRange | vRange | mode | info =>
    simp [reread, words]

/-- Every command begins with its opcode (R110). -/
theorem encode_eq_cons (i : Instr) : ∃ par tail, encode i = cmd i.opcode par :: tail := by
  unfold encode
  cases i.operands <;> exact ⟨_, _, rfl⟩

/-! ## An instruction is determined by its port, its opcode and its operands (R110, R128) -/

/-- A GP0 command has as many words as `LEN` of its opcode says (R111): Laws/PerInstr.lean's fact for every constructor
at once. -/
theorem encode_length_gp0 {i : Instr} {op : BitVec 8} (hk : i.key = (.gp0, op)) : (encode i).length = opLen op := by
  cases i <;> cases hk <;> rfl

/-- A GP1 command is one word (R127). -/
theorem encode_length_gp1 {i : Instr} {op : BitVec 8} (hk : i.key = (.gp1, op)) : (encode i).length = 1 := by
  cases i <;> cases hk <;> rfl

/-- Constructor by constructor: the key gives the opcode, and its arm of the decoder reads operands of this layout. -/
theorem gp0Instr_of_key {i : Instr} {op : BitVec 8} {ws : List Word} (hk : i.key = (.gp0, op))
    (ho : i.operands.reread ws = i.operands) : gp0Instr op ws = i := by
  cases i <;> cases hk <;> cases ho <;> rfl

/-- The same of the control port. -/
theorem decodeGp1_of_key {i : Instr} {op : BitVec 8} {w : Word} {rest : List Word} (hk : i.key = (.gp1, op))
    (hw : gp1OpcodeOf w = op.setWidth 6) (ho : i.operands.reread (w :: rest) = i.operands) : decodeGp1 w = i := by
  rw [decodeGp1, hw]
  cases i <;> cases hk <;> cases ho <;> rfl

/-- The command at the head of enough words (R111, R133). -/
theorem decode_gp0_cons {w : Word} {rest : List Word} (h : opLen (opcodeOf w) ≤ (w :: rest).length) :
    decode .gp0 (w :: rest) =
      .ok (gp0Instr (opcodeOf w) (w :: rest), (w :: rest).drop (opLen (opcodeOf w))) := by
  simp only [decode, Machine.decodeGp0_cons h]

/-- Words that hold an instruction's opcode and operands decode to it (R110, R111). -/
theorem decode_of_operands {i : Instr} {par : BitVec 24} {tail rest : List Word}
    (he : encode i = cmd i.opcode par :: tail)
    (ho : i.operands.reread (encode i ++ rest) = i.operands) : decode i.port (encode i ++ rest) = .ok (i, rest) := by
  cases hp : i.port with
  | gp0 =>
    have hk : i.key = (.gp0, opcodeOf (cmd i.opcode par)) := Prod.ext hp (opcodeOf_cmd i.opcode par).symm
    have hlen := encode_length_gp0 hk
    rw [he, List.cons_append] at ho ⊢
    rw [he, List.length_cons] at hlen
    rw [decode_gp0_cons (by rw [List.length_cons, List.length_append]; omega), gp0Instr_of_key hk ho, ← hlen,
      List.drop_succ_cons, List.drop_left]
  | gp1 =>
    have hk : i.key = (.gp1, i.opcode) := Prod.ext hp rfl
    have hlen := encode_length_gp1 hk
    obtain rfl : tail = [] := by simpa [he] using hlen
    rw [he, List.cons_append] at ho ⊢
    rw [decode, decodeGp1_of_key hk (gp1OpcodeOf_cmd _ _) ho, List.nil_append]

/-- Settles O1: the words of an instruction hold its operands, and these and its key determine it. -/
theorem decodeUndoesEncode : Obligations.DecodeUndoesEncode := by
  intro i rest hwf
  obtain ⟨par, tail, he⟩ := encode_eq_cons i
  exact decode_of_operands he (Operands.reread_words hwf i.opcode rest)

/-! ## What a word decodes to (R129, R133) -/

/-- Every opcode is that of a command of its own. -/
theorem gp0Instr_key (op : BitVec 8) (ws : List Word) : (gp0Instr op ws).key = (.gp0, op) := by
  obtain ⟨n, hn, rfl⟩ : ∃ n < 256, op = BitVec.ofNat 8 n := ⟨op.toNat, op.isLt, by simp⟩
  interval_cases n <;> rfl

theorem decodeGp1_key (w : Word) : (decodeGp1 w).key = (.gp1, (gp1OpcodeOf w).setWidth 8) := by
  obtain ⟨n, hn, hop⟩ : ∃ n < 64, gp1OpcodeOf w = BitVec.ofNat 6 n := ⟨_, (gp1OpcodeOf w).isLt, by simp⟩
  rw [decodeGp1, hop]
  interval_cases n <;> rfl

/-- Settles O3: what is decoded has the word's port and opcode in its key. -/
theorem everyWordDecodes : Obligations.EveryWordDecodes := by
  refine ⟨fun w rest h => ?_, fun w rest => ?_⟩
  · have hkey := gp0Instr_key (opcodeOf w) (w :: rest)
    exact ⟨_, decode_gp0_cons h, congrArg Prod.fst hkey, congrArg Prod.snd hkey, Machine.gp0Instr_wf ..⟩
  · have hkey := decodeGp1_key w
    exact ⟨_, rfl, congrArg Prod.fst hkey, congrArg Prod.snd hkey, (Machine.decodeGp1_wf w).1⟩

/-- Settles O2: the decoder run on each of the seven commands. -/
theorem handWrittenWordsDecode : Obligations.HandWrittenWordsDecode :=
  ⟨rfl, rfl, rfl, rfl, rfl, rfl, rfl⟩

/-- Settles O4: the table and the closed form compared for each of the 256 opcodes. -/
theorem lengthTableClosedForm : Obligations.LengthTableClosedForm := by
  unfold Obligations.LengthTableClosedForm
  decide

end Sys2Proof
end

section
/-! Opcodes that differ in bits R129 calls ignored mean the same. -/

namespace Sys2Proof.Machine

/-! ## Without a texture `RAW` has no effect (R300) -/

theorem plotAll_untextured {m : RenderMode} (hm : m.textured = false) (raw : Bool) (v : Vram) (ps : List Pixel) :
    plotAll { m with raw := raw } v ps = plotAll m v ps := by
  unfold plotAll
  congr 1
  funext v p
  simp [plot, source, hm, plotValue, blended]

theorem drawPrimitive_untextured (raw raw' semi : Bool) (k : ClutSel) (ps : List Pixel) (s : State) :
    drawPrimitive false raw semi k ps s = drawPrimitive false raw' semi k ps s := by
  have hmode : s.mode false raw semi k = { s.mode false raw' semi k with raw := raw } := rfl
  simp only [drawPrimitive, drawPixels, effectiveRaw_eq, Bool.false_eq_true, if_false]
  rw [hmode, plotAll_untextured rfl]

theorem polygon_eq_of_untextured {c d : PolyCmd} (hc : c.tex = none) (h : { c with raw := d.raw } = d) :
    polygon c = polygon d := by
  rw [← h]
  obtain ⟨_, semi, raw, tex, _⟩ := c
  subst hc
  funext s
  simp only [polygon, PolyCmd.draw, PolyCmd.textured, Option.isSome_none, mod16Check_eq,
    drawPrimitive_untextured raw d.raw]
  rfl

theorem rectangle_eq_of_untextured {c d : RectCmd} (hc : c.tex = none) (h : { c with raw := d.raw } = d) :
    rectangle c = rectangle d := by
  rw [← h]
  obtain ⟨semi, raw, _, _, tex, _⟩ := c
  subst hc
  funext s
  simp only [rectangle, RectCmd.draw, RectCmd.textured, Option.isSome_none, mod16Check_eq,
    drawPrimitive_untextured raw d.raw]
  rfl

/-! ## The commands of a class, by `op[4:0]` (R128) -/

/-- A variant without bit 2, `T` of polygons and rectangles (R119, R122). -/
theorem untextured_variant {v : Nat} (hv : v < 32) (ht : v.testBit 2 = false) :
    ∃ k j, k < 4 ∧ j < 4 ∧ v = 8 * k + j := by
  have hbit : ¬ v / 4 % 2 = 1 := by simpa [Nat.testBit_eq_decide_div_mod_eq] using ht
  exact ⟨v / 8, v % 8, by omega, by omega, by omega⟩

theorem exec_decodePolygon {v : Nat} (hv : v < 32) (ht : v.testBit 2 = false) (ws : List Word) (s : State) :
    exec (decodePolygon v ws) s = exec (decodePolygon (v &&& 0x1E) ws) s := by
  obtain ⟨k, j, hk, hj, rfl⟩ := untextured_variant hv ht
  interval_cases k <;> interval_cases j <;>
    exact congrArg (fun f => Host.Outcome.next (locked f s)) (polygon_eq_of_untextured rfl rfl)

theorem exec_decodeRect {v : Nat} (hv : v < 32) (ht : v.testBit 2 = false) (ws : List Word) (s : State) :
    exec (decodeRect v ws) s = exec (decodeRect (v &&& 0x1E) ws) s := by
  obtain ⟨k, j, hk, hj, rfl⟩ := untextured_variant hv ht
  interval_cases k <;> interval_cases j <;>
    exact congrArg (fun f => Host.Outcome.next (locked f s)) (rectangle_eq_of_untextured rfl rfl)

theorem exec_decodeLine {v : Nat} (hv : v < 32) (ws : List Word) (s : State) :
    exec (decodeLine v ws) s = exec (decodeLine (v &&& 0x1A) ws) s := by
  interval_cases v <;> rfl

theorem exec_decodeCopy (v : Nat) (ws : List Word) (s : State) :
    exec (decodeCopy v ws) s = .next (locked (vcopy (.ofWords ws)) s) := by
  unfold decodeCopy; split <;> rfl

theorem exec_decodeImageIn (v : Nat) (ws : List Word) (s : State) :
    exec (decodeImageIn v ws) s = .next (locked (imageIn (.ofWords ws)) s) := by
  unfold decodeImageIn; split <;> rfl

theorem exec_decodeImageOut (v : Nat) (ws : List Word) (s : State) :
    exec (decodeImageOut v ws) s = .next (imageOut (.ofWords ws) s) := by
  unfold decodeImageOut; split <;> rfl

/-! ## The ignored bits of an opcode (R129) -/

theorem opVariant_and (op m : BitVec 8) : opVariant (op &&& m) = opVariant op &&& opVariant m := by
  simp only [opVariant, BitVec.toNat_and]
  exact Nat.and_mod_two_pow (n := 5)

/-- Clearing bits of the variant leaves the class. -/
theorem opClass_and {m : BitVec 8} (hm : opClass m = 7) (op : BitVec 8) : opClass (op &&& m) = opClass op := by
  have hlt : opClass op < 2 ^ 3 := Nat.div_lt_of_lt_mul op.isLt
  calc opClass (op &&& m) = opClass op &&& opClass m := by
        simp only [opClass, BitVec.toNat_and]
        exact Nat.and_div_two_pow (n := 5)
    _ = opClass op := by rw [hm, Nat.and_two_pow_sub_one_eq_mod _ 3, Nat.mod_eq_of_lt hlt]

theorem opVariant_testBit (op : BitVec 8) : (opVariant op).testBit 2 = op.getLsbD 2 := by
  simp [opVariant, BitVec.getLsbD, Nat.testBit_mod_two_pow _ 5]

/-- Settles O5: class by class, the canonical opcode's variant has the same meaning. -/
theorem aliasesBehaveAsCanonical : Obligations.AliasesBehaveAsCanonical := by
  intro op ws s
  have hv : opVariant op < 32 := Nat.mod_lt _ (by decide)
  have htex : ¬ op.getLsbD 2 = true → (opVariant op).testBit 2 = false := fun h => by
    rwa [opVariant_testBit, ← Bool.not_eq_true]
  unfold canonicalOp
  split
  · next hc =>
    split
    · rfl
    · next ht =>
      simp only [gp0Instr, opClass_and (m := 0xFE#8) rfl, hc, opVariant_and]
      exact exec_decodePolygon hv (htex ht) ws s
  · next hc =>
    simp only [gp0Instr, opClass_and (m := 0xFA#8) rfl, hc, opVariant_and]
    exact exec_decodeLine hv ws s
  · next hc =>
    split
    · rfl
    · next ht =>
      simp only [gp0Instr, opClass_and (m := 0xFE#8) rfl, hc, opVariant_and]
      exact exec_decodeRect hv (htex ht) ws s
  · next hc => simp only [gp0Instr, opClass_and (m := 0xE0#8) rfl, hc, exec_decodeCopy]
  · next hc => simp only [gp0Instr, opClass_and (m := 0xE0#8) rfl, hc, exec_decodeImageIn]
  · next hc => simp only [gp0Instr, opClass_and (m := 0xE0#8) rfl, hc, exec_decodeImageOut]
  · rfl

end Sys2Proof.Machine
end

section
/-! The data words of a polyline (R121, R290 to R292). -/

namespace Sys2Proof.Machine

/-! ## The terminator (R121) -/

theorem field_and (v w : Word) (lo n : Nat) : field (v &&& w) lo n = field v lo n &&& field w lo n := by
  simp [field, BitVec.extractLsb'_and]

/-- A word is its two tag nibbles and what is between and below them (R121). -/
theorem word_ext_tags {v w : Word} (h28 : field v 28 4 = field w 28 4) (h16 : field v 16 12 = field w 16 12)
    (h12 : field v 12 4 = field w 12 4) (h0 : field v 0 12 = field w 0 12) : v = w := by
  unfold field at h28 h16 h12 h0
  rw [extract_eq_iff] at h28 h16 h12 h0
  refine BitVec.eq_of_getLsbD_eq fun i hi => ?_
  rcases (by omega : i < 12 ∨ (12 ≤ i ∧ i < 16) ∨ (16 ≤ i ∧ i < 28) ∨ 28 ≤ i) with h | h | h | h
  · exact h0 i (by omega) (by omega)
  · exact h12 i (by omega) (by omega)
  · exact h16 i (by omega) (by omega)
  · exact h28 i (by omega) (by omega)

theorem isTerminator_iff (w : Word) : isTerminator w = true ↔ field w 28 4 = 5#4 ∧ field w 12 4 = 5#4 := by
  have h28 : field (w &&& 0xF000F000#32) 28 4 = field w 28 4 := (field_and ..).trans BitVec.and_allOnes
  have h12 : field (w &&& 0xF000F000#32) 12 4 = field w 12 4 := (field_and ..).trans BitVec.and_allOnes
  have h16 : field (w &&& 0xF000F000#32) 16 12 = 0#12 := (field_and ..).trans BitVec.and_zero
  have h0 : field (w &&& 0xF000F000#32) 0 12 = 0#12 := (field_and ..).trans BitVec.and_zero
  unfold isTerminator
  rw [beq_iff_eq]
  constructor
  · intro h
    rw [h] at h28 h12
    exact ⟨h28.symm, h12.symm⟩
  · rintro ⟨e28, e12⟩
    exact word_ext_tags (h28.trans e28) h16 (h12.trans e12) h0

/-! ## A segment inside the bracket (R90, R282) -/

/-- The exact state after a segment drawn inside the bracket, the polyline's registers then written (R282, R286). -/
theorem segment_bracketed {s : State} (hfree : s.lock = .free) (p0 p1 : Int × Int) (c0 c1 : Rgb) (pl : PolyLine) :
    ∃ t, releaseLock { segment p0 p1 c0 c1 false (acquireLock s) with pline := pl } = t ∧
      t = { s with vram := t.vram, tpc := t.tpc, dirty := t.dirty, pline := pl,
                   trace := s.trace ++ [.acquire, .release] } ∧
      t.vram.native = (plotAll (s.mode false false false noClut) s.vram
        (if lineAccepted s.clip p0 p1 then linePixels p0 p1 c0 c1 else [])).native ∧
      t.dirty = if lineAccepted s.clip p0 p1 then some (bbox s.dirty (lineBox p0 p1)) else s.dirty := by
  refine ⟨_, rfl, ?_⟩
  rcases segment_cases p0 p1 c0 c1 false (acquireLock s) with ⟨ha, hu⟩ | ⟨ha, u, hu, hframe, hnative, -⟩
  · rw [hu, show lineAccepted s.clip p0 p1 = false from ha]
    refine ⟨?_, rfl, rfl⟩
    simp [releaseLock, emit, acquireLock, hfree]
  · rw [hu, show lineAccepted s.clip p0 p1 = true from ha]
    refine ⟨?_, hnative, ?_⟩
    · rw [hframe]
      simp [releaseLock, emit, acquireLock, hfree]
    · rw [hframe]
      rfl

/-! ## What a data word does (R291, R292) -/

/-- The state after a data word that draws a segment: the last vertex moves on (R291, R292). -/
theorem dataWord_segment {w : Word} {s : State} {c : Rgb}
    (hc : c = if s.xkind = .polyFlat then s.pline.pcol else s.pline.pnext)
    (h : (s.xkind = .polyFlat ∧ isTerminator w = false) ∨ (s.xkind = .polyGouraud ∧ s.pline.pphase = 1#1)) :
    dataWord w s = { segment s.pline.plast (vertex s.ofs (.ofWord w)) s.pline.pcol c false s with
      pline := { s.pline with plast := vertex s.ofs (.ofWord w), pcol := c,
                              pphase := if s.xkind = .polyFlat then s.pline.pphase else 0#1 } } := by
  rcases h with ⟨hx, hw⟩ | ⟨hx, hphase⟩
  · simp [hc, dataWord, polyFlatWord, hx, hw]
  · simp [hc, dataWord, polyGouraudWord, hx, hphase]

theorem dataWord_terminator {w : Word} {s : State} (hx : s.xkind ≠ .imageIn)
    (h : s.xkind = .polyFlat ∨ s.pline.pphase = 0#1) (hw : isTerminator w = true) :
    dataWord w s = { s with dstate := .idle } := by
  cases hk : s.xkind with
  | imageIn => exact absurd hk hx
  | polyFlat => simp [dataWord, polyFlatWord, hk, hw]
  | polyGouraud =>
    have hphase : s.pline.pphase = 0#1 := h.resolve_left (by simp [hk])
    simp [dataWord, polyGouraudWord, hk, hphase, hw]

theorem dataWord_colour {w : Word} {s : State} (hx : s.xkind = .polyGouraud) (hphase : s.pline.pphase = 0#1)
    (hw : isTerminator w = false) :
    dataWord w s = { s with pline := { s.pline with pnext := .ofWord w, pphase := 1#1 } } := by
  simp [dataWord, polyGouraudWord, hx, hphase, hw]

/-- A data word runs inside the bracket (R90, R145; log entry 24). -/
theorem gp0Write_dataWord {s : State} (hd : s.dstate = .extraData) (hfree : s.lock = .free) (w : Word) :
    gp0Write w s = .next (releaseLock (dataWord w (acquireLock s))) := by
  simp only [gp0Write, hd, locked_free hfree]

/-- Settles O33: a terminator, a colour word and a word that draws, each inside the bracket. -/
theorem polylineDataWords : Obligations.PolylineDataWords := by
  refine ⟨isTerminator_iff, fun w s hd hx hfree => ⟨fun h hw => ?_, fun hk hphase hw => ?_, fun h => ?_⟩⟩
  · rw [gp0Write_dataWord hd hfree, dataWord_terminator (s := acquireLock s) hx h hw]
    simp [releaseLock, emit, acquireLock, hfree]
  · rw [gp0Write_dataWord hd hfree, dataWord_colour (s := acquireLock s) hk hphase hw]
    simp [releaseLock, emit, acquireLock, hfree, Rgb.ofWord]
  · obtain ⟨t, ht, hspec⟩ := segment_bracketed hfree s.pline.plast (vertex s.ofs (.ofWord w)) s.pline.pcol
      (if s.xkind = .polyFlat then s.pline.pcol else s.pline.pnext) _
    refine ⟨t, _, _, rfl, rfl, ?_, hspec⟩
    rw [gp0Write_dataWord hd hfree, dataWord_segment (s := acquireLock s) rfl h]
    exact congrArg _ ht

end Sys2Proof.Machine
end

section
/-! The pixels of a polygon command (R221, R222, R226, R242). -/

namespace Sys2Proof.Machine

/-- Settles O38: the two forms are the definition's, and both rectangles contain every pixel of either. -/
theorem polygonPixelsInsideReportedBox : Obligations.PolygonPixelsInsideReportedBox := by
  refine ⟨fun _ _ => rfl, fun c ofs clip => ⟨fun h => ?_, fun w3 h => ?_, fun p hp => ?_⟩⟩
  · simp only [PolyCmd.pixels, h, PolyCmd.shading]
  · simp only [PolyCmd.pixels, h, PolyCmd.shading, PolyCmd.textured]
  · exact (Rect.has_inter.1 (PolyCmd.pixels_has hp)).symm

end Sys2Proof.Machine
end

section
/-! The command processor: the first and the further words of a command (R141, R142), the commands without effect (R150,
R152, R353, R363) and FLUSH (R151). -/

namespace Sys2Proof.Machine

/-! ## The words of a command -/

/-- As many words as the first one's opcode asks for decode to its instruction (R111, R133). -/
theorem decodeGp0_of_opLen_le {ws : List Word} (h : opLen (opcodeOf (wordAt ws 0)) ≤ ws.length) :
    decodeGp0 ws = .ok (gp0Instr (opcodeOf (wordAt ws 0)) ws) := by
  cases ws with
  | nil => exact absurd (opLen_pos _) (not_le.2 (Nat.lt_succ_of_le h))
  | cons w rest => exact decodeGp0_cons h

theorem wordAt_append_left {ws vs : List Word} {k : Nat} (h : k < ws.length) : wordAt (ws ++ vs) k = wordAt ws k :=
  List.getD_append _ _ _ _ h

/-- Settles O6: in `Idle` the word's `LEN` alone decides between dispatch and waiting. -/
theorem idleWordOpensCommand : Obligations.IdleWordOpensCommand := by
  refine fun w s hidle hbuf => ⟨fun hlen => ?_, fun hlen => ?_⟩
  · exact gp0Write_idle hidle hbuf hlen (decodeGp0_of_opLen_le (ws := [w]) hlen.le)
  · simp only [gp0Write, hidle, gp0Idle, if_neg hlen]

/-- Settles O7: the invariant gives a consistent buffer whose first word has `CTARGET` as its `LEN`. -/
theorem fillingWordIsArgument : Obligations.FillingWordIsArgument := by
  intro w s hs hfilling
  have hok := fillingOk_of_sequencingWf hs.sequencing hfilling
  obtain ⟨hbuf, hopen⟩ := hs.sequencing
  obtain ⟨hpos, hlt, htarget⟩ := hopen hfilling
  have hle := opLen_le (opcodeOf (wordAt s.cbuf 0))
  refine ⟨by omega, fun hmore => ?_, fun hlast => ?_⟩
  · simp only [gp0Write, hfilling, gp0Filling, if_pos hok, if_neg hmore.ne]
  · have hlen : (s.cbuf.take s.clen).length = s.clen := List.length_take_of_le (by omega)
    have hhead : wordAt (s.cbuf.take s.clen ++ [w]) 0 = wordAt s.cbuf 0 :=
      (wordAt_append_left (hlen.symm ▸ hpos)).trans (wordAt_take hpos)
    refine gp0Write_filling hfilling hok hbuf hlast ?_
    rw [← hhead]
    refine decodeGp0_of_opLen_le ?_
    rw [hhead, ← htarget, ← hlast, List.length_append, hlen, List.length_singleton]

/-! ## Instructions without operands -/

/-- Without operands there is FLUSH, the two resets of the control port, and commands that do nothing. -/
theorem exec_of_operands_none {i : Instr} (ho : i.operands = .none) (hflush : i ≠ .flush) (hreset : i ≠ .g1Reset)
    (habort : i ≠ .g1Abort) (s : State) : exec i s = .next s := by
  cases execForm i with
  | keeps _ _ he => exact he s
  | flush e => exact absurd e hflush
  | g1Reset e => exact absurd e hreset
  | g1Abort e => exact absurd e habort
  | polygon c hc => simp [polygonOf, ho] at hc
  | rectangle c hc => simp [rectangleOf, ho] at hc
  | line c hc => simp [lineOf, ho] at hc
  | polyline c hc => simp [lineOf, ho] at hc
  | copy _ h | imageIn _ h | imageOut _ h | info _ h => exact nomatch ho.symm.trans h
  | fill _ e | setmode _ e | settw _ e | setclip1 _ e | setclip2 _ e | setofs _ e | setmask _ e | g1Dispen _ e
  | g1Dmadir _ e | g1Origin _ e | g1Hrange _ e | g1Vrange _ e | g1Mode _ e => subst e; exact nomatch ho

/-- The same, of an instruction known by its port and opcode. -/
theorem exec_of_key {i : Instr} {p : Port} {op : BitVec 8} (hkey : i.key = (p, op)) (ho : i.operands = .none)
    (hflush : (p, op) ≠ (.gp0, 0x01#8)) (hreset : (p, op) ≠ (.gp1, 0x00#8)) (habort : (p, op) ≠ (.gp1, 0x01#8))
    (s : State) : exec i s = .next s := by
  have hne : ∀ j : Instr, (p, op) ≠ j.key → i ≠ j := fun _ h e => h (hkey.symm.trans (congrArg Instr.key e))
  exact exec_of_operands_none ho (hne _ hflush) (hne _ hreset) (hne _ habort) s

theorem encode_length_of_operands_none {i : Instr} (ho : i.operands = .none) : (encode i).length = 1 := by
  rw [encode, ho]; rfl

/-! ## The opcodes of these commands (R127, R128) -/

/-- Of class 000 only FILL has operands. -/
theorem decodeMisc_operands_none {v : Nat} (hv : v ≠ 2) (ws : List Word) : (decodeMisc v ws).operands = .none := by
  unfold decodeMisc
  split
  case h_3 => exact absurd rfl hv
  all_goals rfl

/-- Of class 111 only E1 to E6 have operands. -/
theorem decodeMode_operands_none {v : Nat} (hv : v = 0 ∨ 7 ≤ v) (ws : List Word) :
    (decodeMode v ws).operands = .none := by
  unfold decodeMode
  split
  case h_2 | h_3 | h_4 | h_5 | h_6 | h_7 => omega
  all_goals rfl

theorem decodeGp1Low_operands_none {v : Nat} (hv : v < 3 ∨ 9 ≤ v ∧ v < 16) (w : Word) :
    (decodeGp1Low v w).operands = .none := by
  obtain hv | ⟨hlo, hhi⟩ := hv <;> interval_cases v <;> rfl

theorem decodeGp1High_operands_none (v : Nat) : (decodeGp1High v).operands = .none := by
  unfold decodeGp1High
  split <;> rfl

theorem gp0Instr_operands_none {op : BitVec 8} (h : op.toNat < 0x20 ∧ op.toNat ≠ 2 ∨ op.toNat = 0xE0 ∨ 0xE7 ≤ op.toNat)
    (ws : List Word) : (gp0Instr op ws).operands = .none := by
  have := op.isLt
  by_cases hlow : op.toNat < 0x20
  · have hclass : opClass op = 0 := by unfold opClass; omega
    have hvar : opVariant op ≠ 2 := by unfold opVariant; omega
    simpa only [gp0Instr, hclass] using decodeMisc_operands_none hvar ws
  · have hclass : opClass op = 7 := by unfold opClass; omega
    have hvar : opVariant op = 0 ∨ 7 ≤ opVariant op := by unfold opVariant; omega
    simpa only [gp0Instr, hclass] using decodeMode_operands_none hvar ws

theorem decodeGp1_operands_none {w : Word}
    (h : (gp1OpcodeOf w).toNat < 3 ∨ 9 ≤ (gp1OpcodeOf w).toNat ∧ (gp1OpcodeOf w).toNat < 16 ∨
      0x20 ≤ (gp1OpcodeOf w).toNat) : (decodeGp1 w).operands = .none := by
  unfold decodeGp1
  split
  · exact decodeGp1Low_operands_none (by omega) w
  · exact decodeGp1High_operands_none _

/-- A one-word command that does nothing, as a word: an empty buffer, which no run has, drops the word. -/
theorem gp0Write_of_exec_nothing {w : Word} {s : State} (hidle : s.dstate = .idle) (hlen : opLen (opcodeOf w) = 1)
    (he : ∀ t, exec (gp0Instr (opcodeOf w) [w]) t = .next t) :
    gp0Write w s = .next { s with cbuf := s.cbuf.set 0 w, clen := 1, ctarget := 1 } := by
  simp only [gp0Write, hidle, gp0Idle, if_pos hlen]
  cases hb : s.cbuf with
  | nil => rfl
  | cons a t => exact (dispatch_of_decode (decodeGp0_of_opLen_le (ws := [w]) hlen.le) rfl).trans (he _)

/-- Settles O15: these opcodes stand for instructions without operands, and not for FLUSH or a reset. -/
theorem reservedCommandsDoNothing : Obligations.ReservedCommandsDoNothing := by
  refine ⟨fun i s ho hflush hreset habort =>
    ⟨exec_of_operands_none ho hflush hreset habort s, encode_length_of_operands_none ho⟩,
    fun w s hidle hop => ?_, fun w s hop => ?_⟩
  · simp only [BitVec.toNat_eq, BitVec.toNat_ofNat] at hop
    have hkey := gp0Instr_key (opcodeOf w) [w]
    have ho : (gp0Instr (opcodeOf w) [w]).operands = .none := gp0Instr_operands_none (by omega) _
    have hlen : opLen (opcodeOf w) = 1 := (encode_length_gp0 hkey).symm.trans (encode_length_of_operands_none ho)
    have hflush : opcodeOf w ≠ 0x01#8 := by rw [BitVec.toNat_ne]; simp only [BitVec.toNat_ofNat]; omega
    exact gp0Write_of_exec_nothing hidle hlen (exec_of_key hkey ho (by simp [hflush]) (by simp) (by simp))
  · simp only [BitVec.toNat_eq, BitVec.toNat_ofNat] at hop
    have ho : (decodeGp1 w).operands = .none := decodeGp1_operands_none (by omega)
    have hne : ∀ n < 2, (gp1OpcodeOf w).setWidth 8 ≠ BitVec.ofNat 8 n := fun n hn => by
      rw [BitVec.toNat_ne, BitVec.toNat_setWidth, BitVec.toNat_ofNat]; omega
    exact exec_of_key (decodeGp1_key w) ho (by simp) (by simp [hne 0]) (by simp [hne 1]) s

/-! ## FLUSH (R151, R335) -/

/-- Settles O16: FLUSH empties the list of valid pages, `flushPages`. -/
theorem flushInvalidatesEveryPage : Obligations.FlushInvalidatesEveryPage :=
  fun s => ⟨flushPages s, rfl, fun _ _ => rfl, rfl⟩

end Sys2Proof.Machine
end

section
/-! The mode-setting commands E1 to E6 (R170 to R176). -/

namespace Sys2Proof.Machine

/-- Settles O17: each of the six commands is one record update. SETCLIP1 and SETCLIP2 each update one corner, so the
other corner's two fields are the old ones. -/
theorem modeSettingWritesItsRegister : Obligations.ModeSettingWritesItsRegister :=
  fun s => ⟨
    fun o => show execSetmode o s = _ from rfl,
    fun o => show execSettw o s = _ from rfl,
    fun o => show execSetclip1 o s = _ from rfl,
    fun o => show execSetclip2 o s = _ from rfl,
    fun o => show execSetofs o s = _ from rfl,
    fun o => show execSetmask o s = _ from rfl⟩

end Sys2Proof.Machine
end

section
/-! FILL, VCOPY and the commands that begin an image transfer (R190 to R199): blocks of cells written one after another,
and the exact state each command leaves. -/

namespace Sys2Proof.Machine

/-! ## Which instruction a copy or an image transfer is (R128) -/

/-- An instruction with a copy's or a transfer's operands is a copy, an image-in or an image-out. -/
theorem exec_transfer {i : Instr} (h : (∃ o, i.operands = .copy o) ∨ ∃ o, i.operands = .xfer o) :
    (∃ o, i.operands = .copy o ∧ ∀ s, exec i s = .next (locked (vcopy o) s)) ∨
      (∃ o, i.operands = .xfer o ∧ opClass i.opcode = 5 ∧ ∀ s, exec i s = .next (locked (imageIn o) s)) ∨
      ∃ o, i.operands = .xfer o ∧ opClass i.opcode = 6 ∧ ∀ s, exec i s = .next (imageOut o s) := by
  cases execForm i with
  | copy o ho _ he => exact .inl ⟨o, ho, he⟩
  | imageIn o ho hp _ he => exact .inr (.inl ⟨o, ho, hp, he⟩)
  | imageOut o ho hp _ he => exact .inr (.inr ⟨o, ho, hp, he⟩)
  | polygon c hc => rcases h with ⟨o, h⟩ | ⟨o, h⟩ <;> simp [polygonOf, h] at hc
  | rectangle c hc => rcases h with ⟨o, h⟩ | ⟨o, h⟩ <;> simp [rectangleOf, h] at hc
  | line c hc | polyline c hc => rcases h with ⟨o, h⟩ | ⟨o, h⟩ <;> simp [lineOf, h] at hc
  | keeps ho | info _ ho => rcases h with ⟨o, h⟩ | ⟨o, h⟩ <;> exact nomatch h.symm.trans ho
  | flush e | fill _ e | setmode _ e | settw _ e | setclip1 _ e | setclip2 _ e | setofs _ e | setmask _ e | g1Reset e
  | g1Abort e | g1Dispen _ e | g1Dmadir _ e | g1Origin _ e | g1Hrange _ e | g1Vrange _ e | g1Mode _ e =>
    subst e
    rcases h with ⟨o, h⟩ | ⟨o, h⟩ <;> cases h

theorem exec_copy {i : Instr} {o : Copy} (h : i.operands = .copy o) (s : State) :
    exec i s = .next (locked (vcopy o) s) := by
  rcases exec_transfer (.inl ⟨o, h⟩) with ⟨o', ho, he⟩ | ⟨o', ho, -⟩ | ⟨o', ho, -⟩ <;> cases h.symm.trans ho
  exact he s

/-- Of the two image transfers an instruction is the one its class says. -/
theorem exec_xfer {i : Instr} {o : Xfer} (h : i.operands = .xfer o) (s : State) :
    (opClass i.opcode = 5 ∧ exec i s = .next (locked (imageIn o) s)) ∨
      (opClass i.opcode = 6 ∧ exec i s = .next (imageOut o s)) := by
  rcases exec_transfer (.inr ⟨o, h⟩) with ⟨o', ho, -⟩ | ⟨o', ho, hp, he⟩ | ⟨o', ho, hp, he⟩ <;> cases h.symm.trans ho
  · exact .inl ⟨hp, he s⟩
  · exact .inr ⟨hp, he s⟩

/-- Settles O44: of the two image transfers the class selects image-out. -/
theorem imageOutOpensTheReadOut : Obligations.ImageOutOpensTheReadOut := by
  intro i o s ho hclass
  rcases exec_xfer ho s with ⟨h5, -⟩ | ⟨-, he⟩
  · exact absurd (h5.symm.trans hclass) (by decide)
  · exact he

/-! ## IMGIN (R194, R196) -/

theorem wantedFormat_eq (c24 : Bool) (n : Nat) :
    wantedFormat c24 n = if c24 = true ∧ n % 6 = 0 then VFmt.f24 else VFmt.f15 := by
  simp [wantedFormat]

/-- Everything `FormatSwitch` can do (R196, R334). -/
theorem formatSwitch_cases (n : Nat) (s : State) :
    (wantedFormat s.pend.c24 n = s.vram.fmt ∧ formatSwitch n s = s) ∨
      (wantedFormat s.pend.c24 n ≠ s.vram.fmt ∧ formatSwitch n s =
        { s with vram := { s.vram with fmt := wantedFormat s.pend.c24 n, tags := [], flags := [] }, tpc := [] }) := by
  unfold formatSwitch
  split
  · next h => exact .inl ⟨h, rfl⟩
  · next h => exact .inr ⟨h, by rw [Vram.convertTo, if_neg (Ne.symm h)]; rfl⟩

/-- Settles O42: the bracket around `FormatSwitch`, which changes the format or nothing, and the registers written. -/
theorem imageInOpensItsDataPhase : Obligations.ImageInOpensItsDataPhase := by
  intro i o s ho hclass hfree
  have he : exec i s = .next (releaseLock (imageIn o (acquireLock s))) := by
    rcases exec_xfer ho s with ⟨-, he⟩ | ⟨h6, -⟩
    · rw [he, locked_free hfree]
    · exact absurd (h6.symm.trans hclass) (by decide)
  refine ⟨_, wantedFormat s.pend.c24 o.w, he, wantedFormat_eq .., ?_⟩
  rcases formatSwitch_cases o.w (acquireLock s) with ⟨hw, e⟩ | ⟨hw, e⟩
  · rw [imageIn, e]
    refine ⟨?_, rfl, hw.symm, fun _ => ⟨rfl, rfl⟩, fun hne => absurd hw hne⟩
    simp [releaseLock, emit, acquireLock, hfree, dataWords]
  · rw [imageIn, e]
    refine ⟨?_, rfl, rfl, fun heq => absurd heq hw, fun _ => ⟨rfl, rfl, rfl⟩⟩
    simp [releaseLock, emit, acquireLock, hfree, dataWords]

/-! ## Blocks of cells (R77, R190, R192) -/

/-- The cells at these offsets from `(x, y)` written one after another under a mask mode, the one at `ij` given `q ij`:
the offsets of a block for FILL, with the mask mode off, and for VCOPY (R190, R192). -/
def storeCells (msk : MaskMode) (q : Nat × Nat → BitVec 16) (x y : Nat) (ofs : List (Nat × Nat)) (v : Vram) : Vram :=
  ofs.foldl (fun u ij => u.maskedWrite msk (x + ij.1 : Nat) (y + ij.2 : Nat) (q ij)) v

theorem fillBlock_eq_storeCells (p : BitVec 16) (x y w h : Nat) (v : Vram) :
    fillBlock p x y w h v = storeCells ⟨false, false⟩ (fun _ => p) x y (blockOffsets w h) v := by
  simp [fillBlock, storeCells, Vram.maskedWrite, orMask]

theorem copyBlock_eq_storeCells (msk : MaskMode) (o : Copy) (v : Vram) :
    copyBlock msk o v = storeCells msk (fun ij => v.read (o.sx.toNat + ij.1 : Nat) (o.sy.toNat + ij.2 : Nat))
      o.dx.toNat o.dy.toNat (blockOffsets o.w o.h) v := rfl

theorem blockOffsets_nodup (w h : Nat) : (blockOffsets w h).Nodup := by
  refine List.nodup_flatMap.2 ⟨fun j _ => List.nodup_range.map fun a b hab => (Prod.mk.inj hab).1, ?_⟩
  refine List.nodup_range.imp fun {a b} hne => ?_
  simp [Function.onFun, List.disjoint_left, Ne.symm hne]

/-- Different offsets of a block no larger than VRAM are different cells (R77). -/
theorem cellIndex_block_inj {x y w h : Nat} (hw : w ≤ 1024) (hh : h ≤ 512) {a b : Nat × Nat}
    (ha : a ∈ blockOffsets w h) (hb : b ∈ blockOffsets w h)
    (he : cellIndex (x + a.1 : Nat) (y + a.2 : Nat) = cellIndex (x + b.1 : Nat) (y + b.2 : Nat)) : a = b := by
  rw [mem_blockOffsets] at ha hb
  rw [cellIndex_eq_iff] at he
  exact Prod.ext (by omega) (by omega)

theorem Vram.maskedWrite_tags (msk : MaskMode) (v : Vram) (x y : Int) (p : BitVec 16) :
    (v.maskedWrite msk x y p).tags = v.tags := by
  rcases v.maskedWrite_cases msk x y p with ⟨-, -, e⟩ | ⟨-, e⟩ <;> rw [e]; rfl

/-- A pixel depends on its cell alone (R77). -/
theorem Vram.read_of_cellIndex_eq (v : Vram) {x y x' y' : Int} (h : cellIndex x y = cellIndex x' y') :
    v.read x y = v.read x' y' := by
  rw [Vram.read, Vram.read, cellOf, cellOf, h]

section
variable (msk : MaskMode) (q : Nat × Nat → BitVec 16) (x y : Nat) (v : Vram)

theorem storeCells_append (l l' : List (Nat × Nat)) :
    storeCells msk q x y (l ++ l') v = storeCells msk q x y l' (storeCells msk q x y l v) := List.foldl_append ..

theorem storeCells_cons (ij : Nat × Nat) (l : List (Nat × Nat)) : storeCells msk q x y (ij :: l) v =
    storeCells msk q x y l (v.maskedWrite msk (x + ij.1 : Nat) (y + ij.2 : Nat) (q ij)) := rfl

theorem storeCells_fmt (l : List (Nat × Nat)) : (storeCells msk q x y l v).fmt = v.fmt :=
  List.foldlRecOn (motive := fun (u : Vram) => u.fmt = v.fmt) l _ rfl
    fun _ hu _ _ => (Vram.maskedWrite_fmt ..).trans hu

theorem storeCells_tags (l : List (Nat × Nat)) : (storeCells msk q x y l v).tags = v.tags :=
  List.foldlRecOn (motive := fun (u : Vram) => u.tags = v.tags) l _ rfl
    fun _ hu _ _ => (Vram.maskedWrite_tags ..).trans hu

/-- Every byte of the other cells is kept. -/
theorem storeCells_byte_frame {l : List (Nat × Nat)} {a : Nat}
    (ha : ∀ ij ∈ l, a / 2 ≠ cellIndex (x + ij.1 : Nat) (y + ij.2 : Nat)) :
    vramByte (storeCells msk q x y l v).native a = vramByte v.native a :=
  List.foldlRecOn (motive := fun (u : Vram) => vramByte u.native a = vramByte v.native a) l _ rfl
    fun u hu ij hij => (Vram.maskedWrite_byte_frame msk u _ _ _ (ha ij hij)).trans hu

/-- A cell written once holds its pixel, or what it held where the mask check protects it (R76). -/
theorem storeCells_read {l : List (Nat × Nat)} (hnodup : l.Nodup)
    (hinj : ∀ a ∈ l, ∀ b ∈ l,
      cellIndex (x + a.1 : Nat) (y + a.2 : Nat) = cellIndex (x + b.1 : Nat) (y + b.2 : Nat) → a = b)
    {ij : Nat × Nat} (hij : ij ∈ l) :
    (storeCells msk q x y l v).read (x + ij.1 : Nat) (y + ij.2 : Nat) =
      if msk.chk && maskBit (v.read (x + ij.1 : Nat) (y + ij.2 : Nat)) then
        v.read (x + ij.1 : Nat) (y + ij.2 : Nat)
      else orMask (q ij) msk.set := by
  obtain ⟨before, after, rfl⟩ := List.append_of_mem hij
  rw [List.nodup_middle, List.nodup_cons, List.mem_append, not_or] at hnodup
  obtain ⟨⟨hbefore, hafter⟩, -⟩ := hnodup
  have hothers : ∀ (m : List (Nat × Nat)) (u : Vram), m ⊆ before ++ ij :: after → ij ∉ m →
      (storeCells msk q x y m u).read (x + ij.1 : Nat) (y + ij.2 : Nat) = u.read (x + ij.1 : Nat) (y + ij.2 : Nat) :=
    fun m u hm hnot => Vram.read_congr fun a ha => storeCells_byte_frame msk q x y u fun b hb hcell =>
      hnot (hinj ij hij b (hm hb) (ha.symm.trans hcell) ▸ hb)
  rw [storeCells_append, storeCells_cons, hothers after _ (by simp) hafter, Vram.read_maskedWrite_same,
    hothers before v (by simp) hbefore]

variable {v} {w h : Nat}

/-- A block no larger than VRAM has each of its cells written once (R190, R192). -/
theorem storeBlock_read (hw : w ≤ 1024) (hh : h ≤ 512) {i j : Nat} (hi : i < w) (hj : j < h) :
    (storeCells msk q x y (blockOffsets w h) v).read (x + i : Nat) (y + j : Nat) =
      if msk.chk && maskBit (v.read (x + i : Nat) (y + j : Nat)) then v.read (x + i : Nat) (y + j : Nat)
      else orMask (q (i, j)) msk.set :=
  storeCells_read msk q x y v (ij := (i, j)) (blockOffsets_nodup w h)
    (fun _ ha _ hb => cellIndex_block_inj hw hh ha hb) (mem_blockOffsets.2 ⟨hi, hj⟩)

theorem storeBlock_byte_frame {a : Nat} (ha : ¬ inBlock x y w h (a / 2)) :
    vramByte (storeCells msk q x y (blockOffsets w h) v).native a = vramByte v.native a :=
  storeCells_byte_frame msk q x y v fun ij hij hcell =>
    ha ⟨ij.1, ij.2, (mem_blockOffsets.1 hij).1, (mem_blockOffsets.1 hij).2, hcell⟩

end

/-- The exact state after a bracketed command that changes VRAM and reports a rectangle (R90, R145, R368). -/
theorem releaseLock_report {s : State} (hfree : s.lock = .free) (r : Rect) (v : Vram) :
    releaseLock (report r { acquireLock s with vram := v }) =
      { s with vram := v.invalidate r, tpc := s.tpc.filter fun e => !footprintMeets e r,
               dirty := some (bbox s.dirty r), trace := s.trace ++ [.acquire, .release] } := by
  simp [releaseLock, report, addDirty, invalidate, Vram.invalidate, emit, acquireLock, hfree]

/-! ## VCOPY (R124, R192) -/

theorem decodeCopy_operands (v : Nat) (ws : List Word) : (decodeCopy v ws).operands = .copy (.ofWords ws) := by
  unfold decodeCopy; split <;> rfl

/-- Written as a case distinction (R124). -/
theorem sizeField_of_lt {m v : Nat} (h : v < m) : sizeField m v = if v = 0 then m else v := by
  unfold sizeField
  split
  · next h0 => rw [h0, Nat.mod_eq_of_lt] <;> omega
  · next h0 => rw [show v + (m - 1) = v - 1 + m by omega, Nat.add_mod_right, Nat.mod_eq_of_lt] <;> omega

theorem sizeField_toNat {n : Nat} (v : BitVec n) : sizeField (2 ^ n) v.toNat = if v = 0#n then 2 ^ n else v.toNat := by
  rw [sizeField_of_lt v.isLt]
  simp [BitVec.toNat_eq]

/-- The operands of the 32 copy opcodes (R124, R128). -/
theorem decode_copy {w0 : Word} (h : opClass (opcodeOf w0) = 4) (w1 w2 w3 : Word) :
    ∃ i, decode .gp0 [w0, w1, w2, w3] = .ok (i, []) ∧ i.operands = .copy (.ofWords [w0, w1, w2, w3]) := by
  have hlen : opLen (opcodeOf w0) = 4 := by simp only [opLen, h]
  refine ⟨gp0Instr (opcodeOf w0) [w0, w1, w2, w3], ?_, ?_⟩
  · rw [decode_gp0_cons (by simp [hlen]), hlen]; rfl
  · simp only [gp0Instr, h, decodeCopy_operands]

theorem Copy.ofWords_eq (w0 w1 w2 w3 : Word) : Copy.ofWords [w0, w1, w2, w3] =
    ⟨field w1 0 10, field w1 16 9, field w2 0 10, field w2 16 9,
      if field w3 0 10 = 0#10 then 1024 else (field w3 0 10).toNat,
      if field w3 16 9 = 0#9 then 512 else (field w3 16 9).toNat⟩ := by
  obtain ⟨hw, hh⟩ := sizeField_field w3
  simp only [Copy.ofWords, wordAt_cons_zero, wordAt_cons_succ, hw, hh]
  rw [show (1024 : Nat) = 2 ^ 10 from rfl, show (512 : Nat) = 2 ^ 9 from rfl, sizeField_toNat, sizeField_toNat]

/-- Settles O41: the copy as a block store whose pixels are those of VRAM before it, inside the bracket. -/
theorem copyReadsBeforeItWrites : Obligations.CopyReadsBeforeItWrites := by
  refine ⟨fun w0 w1 w2 w3 hlo hhi => ?_, fun i o s ho hwf hfree => ?_⟩
  · rw [← Copy.ofWords_eq w0]
    exact decode_copy (by unfold opClass; omega) w1 w2 w3
  · have hsize : sizeWf o.w o.h = true := by simpa [Instr.wf, ho, Operands.wf] using hwf
    obtain ⟨⟨-, hw⟩, -, hh⟩ := sizeWf_iff.1 hsize
    refine ⟨_, by rw [exec_copy ho, locked_free hfree, vcopy, releaseLock_report hfree], rfl, fun j k hj hk => ?_,
      fun a ha => ?_, ?_, ?_, rfl, rfl⟩
    · exact storeBlock_read _ _ _ _ hw hh hj hk
    · exact storeBlock_byte_frame _ _ _ _ ha
    · exact storeCells_fmt ..
    · exact storeCells_tags ..

/-! ## FILL (R123, R190) -/

/-- A colour's native pixel, mask bit 0 (R12). -/
theorem to555_eq (c : Rgb) : to555 c = 0#1 ++ c.b.extractLsb' 3 5 ++ c.g.extractLsb' 3 5 ++ c.r.extractLsb' 3 5 := by
  have hfive : ∀ b : BitVec 8, (b.extractLsb' 3 5).toNat = b.toNat >>> 3 := fun b => by
    have := b.isLt
    rw [BitVec.extractLsb'_toNat, Nat.mod_eq_of_lt]
    omega
  have hnat : c.r.toNat >>> 3 ||| c.g.toNat >>> 3 <<< 5 ||| c.b.toNat >>> 3 <<< 10 ||| 0 <<< 15 =
      (0#1 ++ c.b.extractLsb' 3 5 ++ c.g.extractLsb' 3 5 ++ c.r.extractLsb' 3 5).toNat := by
    simp only [BitVec.toNat_append, hfive, Nat.shiftLeft_or_distrib, ← Nat.shiftLeft_add]
    ac_rfl
  exact (congrArg (BitVec.ofNat 16) hnat).trans ((BitVec.ofNat_toNat ..).trans (BitVec.setWidth_eq _))

/-- FILL's width is the masked form R123 writes. -/
theorem fillW_eq_and (v : BitVec 10) : fillW v.toNat = (v.toNat + 15) &&& 0x7F0 := by
  have hv := v.isLt
  rw [fillW_eq_mask, BitVec.toNat_and, BitVec.toNat_add, BitVec.toNat_setWidth, BitVec.toNat_ofNat, BitVec.toNat_ofNat,
    Nat.mod_eq_of_lt (by omega : v.toNat < 2 ^ 16), Nat.mod_eq_of_lt (by omega)]

theorem decode_fill {w0 : Word} (h : opcodeOf w0 = 0x02#8) (w1 w2 : Word) :
    decode .gp0 [w0, w1, w2] = .ok (.fill (.ofWords [w0, w1, w2]), []) := by
  have hlen : opLen (opcodeOf w0) = 3 := by rw [h]; rfl
  rw [decode_gp0_cons hlen.le, hlen, h]
  rfl

/-- An empty block: the bracket alone (R190). -/
theorem exec_fill_empty {o : Fill} {s : State} (hfree : s.lock = .free) (h : o.w = 0 ∨ o.h.toNat = 0) :
    exec (.fill o) s = .next { s with trace := s.trace ++ [.acquire, .release] } := by
  have he : exec (.fill o) s = .next (locked (fill o) s) := rfl
  rw [he, locked_free hfree, fill, if_pos h]
  simp [releaseLock, emit, acquireLock, hfree]

/-- The exact state after any other FILL (R145, R190). -/
theorem exec_fill_block {o : Fill} {s : State} (hfree : s.lock = .free) (h : ¬ (o.w = 0 ∨ o.h.toNat = 0)) :
    exec (.fill o) s = .next { s with
      vram := Vram.invalidate (targetRect o.x o.y.toNat o.w o.h.toNat)
        (storeCells ⟨false, false⟩ (fun _ => to555 o.c0) o.x o.y.toNat (blockOffsets o.w o.h.toNat) s.vram),
      tpc := s.tpc.filter fun e => !footprintMeets e (targetRect o.x o.y.toNat o.w o.h.toNat),
      dirty := some (bbox s.dirty (targetRect o.x o.y.toNat o.w o.h.toNat)),
      trace := s.trace ++ [.acquire, .release] } := by
  have he : exec (.fill o) s = .next (locked (fill o) s) := rfl
  rw [he, locked_free hfree, fill, if_neg h, releaseLock_report hfree, fillBlock_eq_storeCells]
  rfl

/-- Settles O40: the block is stored with the mask mode off, inside the bracket; an empty block has no cell. -/
theorem fillWritesItsBlock : Obligations.FillWritesItsBlock := by
  refine ⟨fun w0 w1 w2 hop => ?_, fun o s hwf hfree => ?_⟩
  · rw [decode_fill hop, ← fillX_eq_mask, ← fillW_eq_and]
    rfl
  · obtain ⟨-, -, hw⟩ := o.wf_iff.1 hwf
    have hh : o.h.toNat ≤ 512 := o.h.isLt.le
    have hzero : o.h = 0#9 ↔ o.h.toNat = 0 := by simp [BitVec.toNat_eq]
    simp only [ne_eq, hzero]
    by_cases hempty : o.w = 0 ∨ o.h.toNat = 0
    · have hnone : ∀ n, ¬ inBlock o.x o.y.toNat o.w o.h.toNat n := by
        rintro n ⟨i, j, hi, hj, -⟩
        omega
      exact ⟨_, exec_fill_empty hfree hempty, rfl, fun _ _ h => absurd h (hnone _), fun _ _ => rfl, rfl, rfl,
        fun _ => ⟨rfl, rfl⟩, fun hw0 hh0 => absurd hempty (not_or.2 ⟨hw0, hh0⟩)⟩
    · refine ⟨_, exec_fill_block hfree hempty, rfl, ?_, fun a ha => storeBlock_byte_frame _ _ _ _ ha, storeCells_fmt ..,
        storeCells_tags .., fun h => absurd h hempty, fun _ _ => ⟨rfl, rfl⟩⟩
      rintro x y ⟨i, j, hi, hj, hcell⟩
      rw [← to555_eq, Vram.read_of_cellIndex_eq _ hcell]
      exact (storeBlock_read _ _ _ _ hw hh hi hj).trans BitVec.or_zero

end Sys2Proof.Machine
end

section
/-! Lists and absent addresses in DMA transfers (R205 to R213): when a call stops, and when it ends early. -/

namespace Sys2Proof.Machine

/-! ## Words forwarded, present or absent (R206, R212) -/

/-- Everything `forward` can do: its words are all present and the transfer goes on, main memory unchanged, or one is
absent and the transfer ends there. -/
theorem forward_cases (a : Nat) (k : State → Out) (n i : Nat) (s : State) :
    ((∀ j, j < n → (memRead s.mainMem (wordAddr (a + 4 * (i + j)))).isSome = true) ∧
        ∃ u, u.mainMem = s.mainMem ∧ forward a k n i s = k u) ∨
      ((∃ j, j < n ∧ memRead s.mainMem (wordAddr (a + 4 * (i + j))) = none) ∧ goesOn (forward a k n i s)) := by
  induction n generalizing i s with
  | zero => exact .inl ⟨by simp, s, rfl, rfl⟩
  | succ n ih =>
    cases hw : memRead s.mainMem (wordAddr (a + 4 * i)) with
    | none => exact .inr ⟨⟨0, Nat.zero_lt_succ n, hw⟩, s, by rw [forward, hw]⟩
    | some w =>
      obtain ⟨t, ht⟩ := gp0Write_goesOn w s
      have hstep : forward a k (n + 1) i s = forward a k n (i + 1) t := by
        rw [forward, hw]
        simp only [ht, andThen_next]
      rw [hstep, ← gp0Write_mainMem ht]
      rcases ih (i + 1) t with ⟨hall, hgo⟩ | ⟨⟨j, hj, hnone⟩, hgo⟩
      · refine .inl ⟨fun j hj => ?_, hgo⟩
        cases j with
        | zero => rw [gp0Write_mainMem ht, Nat.add_zero, hw]; rfl
        | succ j => rw [← Nat.add_assoc, Nat.add_right_comm]; exact hall j (Nat.lt_of_succ_lt_succ hj)
      · exact .inr ⟨⟨j + 1, Nat.succ_lt_succ hj, by rw [← hnone]; congr 3; omega⟩, hgo⟩

theorem forward_goesOn (a : Nat) {k : State → Out} (hk : ∀ u, goesOn (k u)) (n i : Nat) (s : State) :
    goesOn (forward a k n i s) := by
  rcases forward_cases a k n i s with ⟨-, u, -, e⟩ | ⟨-, h⟩
  · rw [e]; exact hk u
  · exact h

theorem blockOut_goesOn (base : Word) (n i : Nat) (s : State) : goesOn (blockOut base n i s) := by
  induction n generalizing i s with
  | zero => exact ⟨s, rfl⟩
  | succ n ih =>
    rw [blockOut]
    split
    · exact ⟨_, rfl⟩
    · exact ih _ _

/-! ## The walk of a list (R210, R211) -/

/-- The node after one whose header and payload are present and that is not the last (R210). -/
theorem listNext_eq {m : Memory} {ptr : Nat} {hdr : Word} (h : memRead m ptr = some hdr) :
    listNext m ptr =
      if (∀ j, j < nodeCount hdr → (memRead m (wordAddr (ptr + 4 * (1 + j)))).isSome = true) ∧ isLastNode hdr = false
      then some (wordAddr (field hdr 0 24).toNat) else none := by
  simp [listNext, h, Nat.add_comm 1]

/-- A walk outruns its bound exactly where the list does, and goes on everywhere else. -/
theorem listWalk_cases (fuel ptr : Nat) (s : State) :
    (listReaches s.mainMem fuel ptr = true ∧ listWalk fuel ptr s = .fault listStop) ∨
      (listReaches s.mainMem fuel ptr = false ∧ goesOn (listWalk fuel ptr s)) := by
  induction fuel generalizing ptr s with
  | zero => exact .inl ⟨rfl, rfl⟩
  | succ fuel ih =>
    cases hhdr : memRead s.mainMem ptr with
    | none => exact .inr ⟨by simp [listReaches, listNext, hhdr], s, by rw [listWalk, hhdr]⟩
    | some hdr =>
      simp only [listReaches, listWalk, hhdr, listNext_eq hhdr]
      rcases forward_cases ptr (fun t => if isLastNode hdr then .next t else
        listWalk fuel (wordAddr (field hdr 0 24).toNat) t) (nodeCount hdr) 1 s
        with ⟨hall, u, hu, e⟩ | ⟨⟨j, hj, hnone⟩, hgo⟩
      · rw [e]
        cases hlast : isLastNode hdr with
        | true => exact .inr ⟨by simp, u, rfl⟩
        | false =>
          rw [if_pos ⟨hall, rfl⟩, ← hu]
          exact ih _ u
      · rw [if_neg fun h => by simpa [hnone] using h.1 j hj]
        exact .inr ⟨rfl, hgo⟩

/-- What a list call does: it stops exactly where its list outruns the bound of the walk (R211, R416). -/
theorem dmaTransfer_list_cases {base ctrl : Word} {bc bs : BitVec 16} {s : State} (hfree : s.lock = .free)
    (hlist : ctrlList ctrl = true) :
    (listReaches s.mainMem Config.listBound (wordAddr base.toNat) = true ∧
        dmaTransfer base bc bs ctrl s = .fault listStop) ∨
      (listReaches s.mainMem Config.listBound (wordAddr base.toNat) = false ∧
        goesOn (dmaTransfer base bc bs ctrl s)) := by
  have hbody : dmaBody base bc bs ctrl (acquireLock s) =
      listWalk Config.listBound (wordAddr base.toNat) (acquireLock s) := by rw [dmaBody, if_pos hlist]
  refine (listWalk_cases Config.listBound (wordAddr base.toNat) (acquireLock s)).imp ?_ ?_
  · rintro ⟨hreach, hstop⟩
    exact ⟨hreach, by rw [dmaTransfer, if_pos hfree, hbody, hstop]; rfl⟩
  · rintro ⟨hreach, u, hu⟩
    exact ⟨hreach, _, dmaTransfer_eq hfree (hbody.trans hu)⟩

/-- The call is a list transfer whose list outruns the bound of the walk. -/
def Call.listOutruns (c : Call) (m : Memory) : Prop :=
  ∃ base ctrl bc bs, c = .dmaTransfer base bc bs ctrl ∧ ctrlList ctrl = true ∧
    listReaches m Config.listBound (wordAddr base.toNat) = true

/-- A call goes on or stops, and stops only on a list that outruns the bound. -/
theorem runCall_cases (c : Call) (s : State) :
    goesOn (runCall c s) ∨ (c.listOutruns s.mainMem ∧ runCall c s = .fault listStop) := by
  cases c with
  | gp0Write w => exact .inl (gp0Write_goesOn w s)
  | gp1Write w => exact .inl (exec_goesOn _ s)
  | dmaTransfer base bc bs ctrl =>
    by_cases hfree : s.lock = .free
    · by_cases hlist : ctrlList ctrl = true
      · rcases dmaTransfer_list_cases (bc := bc) (bs := bs) hfree hlist with ⟨hreach, hstop⟩ | ⟨-, hgo⟩
        · exact .inr ⟨⟨base, ctrl, bc, bs, rfl, hlist, hreach⟩, hstop⟩
        · exact .inl hgo
      · have hbody : goesOn (dmaBody base bc bs ctrl (acquireLock s)) := by
          rw [dmaBody, if_neg hlist]
          split
          · exact forward_goesOn _ (fun u => ⟨u, rfl⟩) _ _ _
          · exact blockOut_goesOn ..
        obtain ⟨u, hu⟩ := hbody
        exact .inl ⟨_, dmaTransfer_eq hfree hu⟩
    · exact .inl ⟨s, by rw [runCall, dmaTransfer, if_neg hfree]⟩
  | gpuRead | gpuStat | vsyncTick | sinkAcquire | sinkRelease | clock | memStore | memUnmap => exact .inl ⟨_, rfl⟩

/-- The same of a step. -/
theorem step_cases (s : State) :
    goesOn (step s) ∨
      ((∃ c rest, s.calls = c :: rest ∧ c.listOutruns s.mainMem) ∧ step s = .fault listStop) := by
  cases hc : s.calls with
  | nil => exact .inl ⟨s, by simp [step, nextCall, hc]⟩
  | cons c rest =>
    cases hw : mustWait c s with
    | true => exact .inl ⟨_, step_of_mustWait hc hw⟩
    | false =>
      rw [step_of_not_mustWait hc hw]
      exact (runCall_cases c { s with calls := rest }).imp_right fun ⟨hlist, hstop⟩ => ⟨⟨c, rest, rfl, hlist⟩, hstop⟩

/-- Settles O11: a step goes on or is stopped by its list call, and no instruction stops at all. -/
theorem onlyAnUnendedListStops : Obligations.OnlyAnUnendedListStops := by
  refine ⟨exec_goesOn, fun s r hr => ?_, fun s h => ?_⟩
  · rcases step_cases s with ⟨t, ht⟩ | ⟨-, hstop⟩
    · cases ht.symm.trans hr
    · cases hstop.symm.trans hr
  · refine (step_cases s).resolve_right ?_
    rintro ⟨⟨c, rest, hc, base, ctrl, bc, bs, rfl, hlist, hreach⟩, -⟩
    exact absurd (hreach.symm.trans (h base ctrl bc bs rest hc hlist)) (by decide)

/-! ## Lists that never end (R211) -/

/-- The node after `n` others, the first at `ptr`; none where the list ends before. -/
def listNode (m : Memory) (ptr : Nat) : Nat → Option Nat
  | 0 => some ptr
  | n + 1 => (listNode m ptr n).bind (listNext m)

theorem listNode_succ (m : Memory) (ptr n : Nat) :
    listNode m ptr (n + 1) = (listNext m ptr).bind fun p => listNode m p n := by
  induction n with
  | zero => simp [listNode]
  | succ n ih =>
    rw [listNode, ih, Option.bind_assoc]
    rfl

/-- A list goes on through `n` nodes exactly where there is a node after them. -/
theorem listReaches_eq (m : Memory) (n ptr : Nat) : listReaches m n ptr = (listNode m ptr n).isSome := by
  induction n generalizing ptr with
  | zero => rfl
  | succ n ih =>
    rw [listReaches, listNode_succ]
    cases listNext m ptr with
    | none => rfl
    | some p => exact ih p

/-- The nodes of a list, continued at one of them. -/
theorem listNode_add (m : Memory) (ptr i n : Nat) :
    listNode m ptr (i + n) = (listNode m ptr i).bind fun p => listNode m p n := by
  induction n with
  | zero => simp [listNode]
  | succ n ih =>
    rw [← Nat.add_assoc, listNode, ih, Option.bind_assoc]
    rfl

theorem listReaches_of_le {m : Memory} {n k ptr : Nat} (hn : n ≤ k) (h : listReaches m k ptr = true) :
    listReaches m n ptr = true := by
  obtain ⟨j, rfl⟩ := Nat.exists_eq_add_of_le hn
  rw [listReaches_eq, listNode_add] at h
  rw [listReaches_eq]
  cases hp : listNode m ptr n with
  | none => simp [hp] at h
  | some p => rfl

/-- A list that comes back to a node never ends. -/
theorem listReaches_of_cycle {m : Memory} {ptr k : Nat} (hk : 0 < k) (hback : listNode m ptr k = some ptr) (n : Nat) :
    listReaches m n ptr = true := by
  induction n using Nat.strong_induction_on with
  | _ n ih =>
    by_cases hle : n ≤ k
    · exact listReaches_of_le hle (by rw [listReaches_eq, hback]; rfl)
    · obtain ⟨j, rfl⟩ := Nat.exists_eq_add_of_le (Nat.le_of_not_le hle)
      rw [listReaches_eq, listNode_add, hback, Option.bind_some, ← listReaches_eq]
      exact ih j (by omega)

theorem wordAddr_wordAddr (a : Nat) : wordAddr (wordAddr a) = wordAddr a := by
  unfold wordAddr mainBytes; omega

/-- Every node of a list stands at a word address (R210). -/
theorem listNode_aligned {m : Memory} {ptr n p : Nat} (h0 : wordAddr ptr = ptr) (h : listNode m ptr n = some p) :
    wordAddr p = p := by
  cases n with
  | zero => cases h; exact h0
  | succ n =>
    obtain ⟨q, -, hq⟩ := Option.bind_eq_some_iff.1 h
    unfold listNext at hq
    split at hq
    · cases hq
    · split at hq
      · cases hq; exact wordAddr_wordAddr _
      · cases hq

/-- Of more nodes than there are word addresses two stand at one address. -/
theorem exists_repeated_node {m : Memory} {ptr : Nat} (h0 : wordAddr ptr = ptr)
    (h : listReaches m Config.nodeAddresses ptr = true) :
    ∃ i j p, i < j ∧ listNode m ptr i = some p ∧ listNode m ptr j = some p := by
  have hnode : ∀ i ∈ Finset.range (Config.nodeAddresses + 1), ∃ p, listNode m ptr i = some p ∧ wordAddr p = p :=
    fun i hi => by
      have hreach := listReaches_of_le (Nat.lt_succ_iff.1 (Finset.mem_range.1 hi)) h
      rw [listReaches_eq] at hreach
      obtain ⟨p, hp⟩ := Option.isSome_iff_exists.1 hreach
      exact ⟨p, hp, listNode_aligned h0 hp⟩
  have hslot : ∀ i ∈ Finset.range (Config.nodeAddresses + 1),
      (listNode m ptr i).getD 0 / 4 ∈ Finset.range Config.nodeAddresses := fun i hi => by
    obtain ⟨p, hp, hword⟩ := hnode i hi
    rw [hp, Option.getD_some, Finset.mem_range]
    unfold wordAddr mainBytes at hword
    unfold Config.nodeAddresses
    omega
  obtain ⟨i, hi, j, hj, hne, heq⟩ := Finset.exists_ne_map_eq_of_card_lt_of_maps_to
    (by rw [Finset.card_range, Finset.card_range]; exact Nat.lt_succ_self _) hslot
  obtain ⟨p, hp, hword⟩ := hnode i hi
  obtain ⟨q, hq, hword'⟩ := hnode j hj
  have hpq : p = q := by
    simp only [hp, hq, Option.getD_some] at heq
    unfold wordAddr at hword hword'
    omega
  subst hpq
  rcases Nat.lt_or_gt_of_ne hne with hlt | hgt
  · exact ⟨i, j, p, hlt, hp, hq⟩
  · exact ⟨j, i, p, hgt, hq, hp⟩

/-- A list through as many nodes as there are word addresses has a cycle and never ends. -/
theorem listReaches_of_nodeAddresses {m : Memory} {ptr : Nat} (h0 : wordAddr ptr = ptr)
    (h : listReaches m Config.nodeAddresses ptr = true) (n : Nat) : listReaches m n ptr = true := by
  obtain ⟨i, j, p, hlt, hi, hj⟩ := exists_repeated_node h0 h
  have hback : listNode m p (j - i) = some p := by
    rw [← hj, ← Nat.add_sub_cancel' hlt.le, listNode_add, hi]
    simp
  refine listReaches_of_le (Nat.le_add_left n i) ?_
  rw [listReaches_eq, listNode_add, hi, Option.bind_some, ← listReaches_eq]
  exact listReaches_of_cycle (Nat.sub_pos_of_lt hlt) hback n

/-- Settles O60: the walk and the list agree on the bound, more nodes than addresses repeat one, and a node that links
to itself is the shortest cycle. -/
theorem cyclicListNeverReturns : Obligations.CyclicListNeverReturns := by
  refine ⟨fun base ctrl bc bs s hfree hlist => ?_, fun m ptr n h0 h => listReaches_of_nodeAddresses h0 h n, ⟨rfl, rfl⟩,
    fun base ctrl hdr bc bs s hfree hlist hhdr hcount hlast hlink => ?_⟩
  · rcases dmaTransfer_list_cases (bc := bc) (bs := bs) hfree hlist with ⟨hreach, e⟩ | ⟨hreach, t, e⟩
    · exact ⟨iff_of_true e hreach, fun r hr => (Host.Outcome.fault.inj (e.symm.trans hr)).symm⟩
    · exact ⟨iff_of_false (fun hstop => nomatch e.symm.trans hstop) (by rw [hreach]; decide),
        fun r hr => nomatch e.symm.trans hr⟩
  · have hself : listNode s.mainMem (wordAddr base.toNat) 1 = some (wordAddr base.toNat) := by
      simp [listNode, listNext_eq hhdr, hcount, hlast, hlink]
    have hforever := listReaches_of_cycle Nat.one_pos hself
    rcases dmaTransfer_list_cases (bc := bc) (bs := bs) hfree hlist with ⟨-, e⟩ | ⟨hreach, -⟩
    · exact ⟨e, hforever⟩
    · exact absurd ((hforever _).symm.trans hreach) (by decide)

/-! ## A first address that is absent (R212) -/

/-- Into the block nothing is moved; nor is anything where no word is asked for. -/
theorem dmaBody_absent {base ctrl : Word} {bc bs : BitVec 16} {s : State}
    (habsent : memRead s.mainMem (wordAddr (wordAddr base.toNat)) = none)
    (h : ctrlList ctrl = true ∨ flagBit ctrl 0 = true ∨ bc.toNat * bs.toNat = 0) :
    dmaBody base bc bs ctrl s = .next s := by
  unfold dmaBody
  split
  · obtain ⟨n, hn⟩ := Nat.exists_eq_add_of_le' listBound_pos
    rw [hn, listWalk, ← wordAddr_wordAddr, habsent]
  · next hlist =>
    cases hn : bc.toNat * bs.toNat with
    | zero => split <;> rfl
    | succ n =>
      rw [if_pos ((h.resolve_left hlist).resolve_right (by omega)), blockIn, forward, Nat.mul_zero, Nat.add_zero,
        habsent]

/-- Out of the block the read has been made when its store fails (R207). -/
theorem dmaBody_absent_out {base ctrl : Word} {bc bs : BitVec 16} {s : State}
    (habsent : memRead s.mainMem (wordAddr (wordAddr base.toNat)) = none) (hlist : ctrlList ctrl = false)
    (hdir : flagBit ctrl 0 = false) (hcount : bc.toNat * bs.toNat ≠ 0) :
    dmaBody base bc bs ctrl s = .next (gpuRead s).2 := by
  obtain ⟨n, hn⟩ := Nat.exists_eq_succ_of_ne_zero hcount
  simp [dmaBody, hlist, hdir, hn, blockOut, memWrite, habsent]

/-- Settles O58: the first access is the header's read, the first word's read, or the first word's store. -/
theorem absentAddressSkipsTheTransfer : Obligations.AbsentAddressSkipsTheTransfer := by
  intro base ctrl bc bs s hfree habsent
  refine ⟨fun h => ?_, fun hlist hdir hcount => ?_⟩
  · rw [dmaTransfer_eq hfree (dmaBody_absent (s := acquireLock s) habsent h)]
    simp [dmaEnd, releaseLock, emit, acquireLock, hfree]
  · obtain ⟨-, hrd⟩ := gpuRead_congr (s := s) (t := acquireLock s) rfl rfl
    rw [dmaTransfer_eq hfree (dmaBody_absent_out (s := acquireLock s) habsent hlist hdir hcount), gpuRead_frame, hrd]
    simp [dmaEnd, releaseLock, emit, acquireLock, hfree]

end Sys2Proof.Machine
end

section
/-! Covered cells in the order they are plotted (R227, R265): a list of rows, each a list of columns, met with the clip
rectangle. Triangles, the rectangle path of quads and rectangles are all such scans, so that what each covers, its order
and what clipping does to it are proved once. -/

namespace Sys2Proof.Machine

/-! ## The order of pixels -/

/-- One pixel is plotted before another: rows top to bottom, cells of a row left to right (R227, R265). -/
def Pixel.Before (p q : Pixel) : Prop := p.y < q.y ∨ (p.y = q.y ∧ p.x < q.x)

theorem Pixel.before_irrefl : Std.Irrefl Pixel.Before := ⟨fun p h => by unfold Before at h; omega⟩

theorem Pixel.before_antisymm : Std.Antisymm Pixel.Before :=
  ⟨fun p q h h' => by unfold Before at h h'; omega⟩

/-- Pixels in order are determined by which they are. -/
theorem pixels_eq_of_mem_iff {ps qs : List Pixel} (hp : ps.Pairwise Pixel.Before) (hq : qs.Pairwise Pixel.Before)
    (h : ∀ p, p ∈ ps ↔ p ∈ qs) : ps = qs := by
  have := Pixel.before_irrefl
  have := Pixel.before_antisymm
  exact hp.eq_of_mem_iff hq h

/-- Pixels in order are at different cells. -/
theorem cells_nodup_of_before {ps : List Pixel} (h : ps.Pairwise Pixel.Before) :
    (ps.map fun p => (p.x, p.y)).Nodup := by
  refine List.pairwise_map.2 (h.imp fun {p q} hpq he => ?_)
  obtain ⟨hx, hy⟩ := Prod.mk.inj he
  unfold Pixel.Before at hpq
  omega

theorem rangeII_pairwise_lt (lo hi : Int) : (rangeII lo hi).Pairwise (· < ·) :=
  List.pairwise_map.2 (List.pairwise_lt_range.imp fun h => by simpa using h)

/-! ## Scans -/

/-- Rows `y0` to `y1`, on row `y` the columns `lo y` to `hi y`, inside a clip rectangle, and the pixel of each cell. -/
def scan (clip : Rect) (y0 y1 : Int) (lo hi : Int → Int) (pix : Int → Int → Pixel) : List Pixel :=
  (rangeII (max y0 clip.y0) (min y1 clip.y1)).flatMap fun y =>
    (rangeII (max (lo y) clip.x0) (min (hi y) clip.x1)).map (pix y)

/-- The pixel made for a row and a column is at that cell. -/
def AtItsCell (pix : Int → Int → Pixel) : Prop := ∀ y x, (pix y x).x = x ∧ (pix y x).y = y

section
variable {clip big : Rect} {y0 y1 : Int} {lo hi : Int → Int} {pix : Int → Int → Pixel}

theorem mem_scan {p : Pixel} : p ∈ scan clip y0 y1 lo hi pix ↔
    ∃ y x, (y0 ≤ y ∧ y ≤ y1) ∧ (lo y ≤ x ∧ x ≤ hi y) ∧ clip.has x y = true ∧ p = pix y x := by
  simp only [scan, List.mem_flatMap, List.mem_map, mem_rangeII, Rect.has_iff]
  constructor
  · rintro ⟨y, hy, x, hx, rfl⟩
    exact ⟨y, x, by omega, by omega, by omega, rfl⟩
  · rintro ⟨y, x, hy, hx, hc, rfl⟩
    exact ⟨y, by omega, x, by omega, rfl⟩

/-- The cells a scan covers. -/
theorem scan_covers (hpix : AtItsCell pix) (x y : Int) :
    (∃ p ∈ scan clip y0 y1 lo hi pix, p.x = x ∧ p.y = y) ↔
      (y0 ≤ y ∧ y ≤ y1) ∧ (lo y ≤ x ∧ x ≤ hi y) ∧ clip.has x y = true := by
  constructor
  · rintro ⟨p, hp, rfl, rfl⟩
    obtain ⟨y, x, hy, hx, hc, rfl⟩ := mem_scan.1 hp
    rw [(hpix y x).1, (hpix y x).2]
    exact ⟨hy, hx, hc⟩
  · rintro ⟨hy, hx, hc⟩
    exact ⟨pix y x, mem_scan.2 ⟨y, x, hy, hx, hc, rfl⟩, hpix y x⟩

theorem scan_pairwise (hpix : AtItsCell pix) : (scan clip y0 y1 lo hi pix).Pairwise Pixel.Before := by
  refine List.pairwise_flatMap.2 ⟨fun y _ => ?_, (rangeII_pairwise_lt _ _).imp fun {y y'} hlt p hp q hq => ?_⟩
  · refine List.pairwise_map.2 ((rangeII_pairwise_lt _ _).imp fun {x x'} hlt => ?_)
    obtain ⟨hx, hy⟩ := hpix y x
    obtain ⟨hx', hy'⟩ := hpix y x'
    exact .inr ⟨by omega, by omega⟩
  · obtain ⟨x, -, rfl⟩ := List.mem_map.1 hp
    obtain ⟨x', -, rfl⟩ := List.mem_map.1 hq
    refine .inl ?_
    rwa [(hpix y x).2, (hpix y' x').2]

/-- A scan inside a rectangle is the part of a scan inside a larger one that is inside it (R226, R264). -/
theorem scan_filter (hpix : AtItsCell pix) (hin : ∀ x y, clip.has x y = true → big.has x y = true) :
    scan clip y0 y1 lo hi pix = (scan big y0 y1 lo hi pix).filter fun p => clip.has p.x p.y := by
  refine pixels_eq_of_mem_iff (scan_pairwise hpix) ((scan_pairwise hpix).filter _) fun p => ?_
  rw [List.mem_filter, mem_scan, mem_scan]
  constructor
  · rintro ⟨y, x, hy, hx, hc, rfl⟩
    refine ⟨⟨y, x, hy, hx, hin x y hc, rfl⟩, ?_⟩
    rwa [(hpix y x).1, (hpix y x).2]
  · rintro ⟨⟨y, x, hy, hx, -, rfl⟩, hc⟩
    rw [(hpix y x).1, (hpix y x).2] at hc
    exact ⟨y, x, hy, hx, hc, rfl⟩

end

/-! ## The primitives as scans -/

/-- The pixels of a triangle that is not rejected, from its left edge to before its right one (R227, R234, R236). -/
theorem Tri.pixels_eq_scan {t : Tri} (h : t.rejected = false) (clip : Rect) (sh : Shading) :
    t.pixels clip sh = scan clip t.a.y (t.c.y - 1) (fun y => ceil16 ((t.left y).x y))
      (fun y => ceil16 ((t.right y).x y) - 1) (t.pixel sh) := by
  unfold Tri.pixels
  rw [h]; rfl

theorem quadRectPixels_eq_scan (clip : Rect) (sh : Shading) (p0 p1 p2 : Vert) :
    quadRectPixels clip sh p0 p1 p2 = scan clip p0.y (p2.y - 1) (fun _ => p0.x) (fun _ => p1.x - 1)
      fun y x => sh.pixel x y (quadAttrs p0 p1 p2 y x) := rfl

theorem RectCmd.pixels_eq_scan (c : RectCmd) (ofs : DrawOffset) (clip : Rect) :
    c.pixels ofs clip = scan clip (c.extent ofs).y0 (c.extent ofs).y1 (fun _ => (c.extent ofs).x0)
      (fun _ => (c.extent ofs).x1) (c.pixel ofs) := rfl

theorem Tri.pixel_atItsCell (sh : Shading) (t : Tri) : AtItsCell (t.pixel sh) := fun _ _ => ⟨rfl, rfl⟩

theorem quadRect_atItsCell (sh : Shading) (p0 p1 p2 : Vert) :
    AtItsCell fun y x => sh.pixel x y (quadAttrs p0 p1 p2 y x) := fun _ _ => ⟨rfl, rfl⟩

theorem RectCmd.pixel_atItsCell (c : RectCmd) (ofs : DrawOffset) : AtItsCell (c.pixel ofs) := fun _ _ => ⟨rfl, rfl⟩

/-! ## The two paths of a quad (R239) -/

theorem quadPixels_rect {sh : Shading} {textured : Bool} {p0 p1 p2 p3 : Vert} (hs : quadShape p0 p1 p2 p3 = true)
    (hl : quadLinear textured sh.gouraud p0.a p1.a p2.a p3.a = true) (clip : Rect) :
    quadPixels clip sh textured p0 p1 p2 p3 = quadRectPixels clip sh p0 p1 p2 := by
  simp only [quadPixels, hs, hl, Bool.and_self, if_true]

theorem quadPixels_triangles {sh : Shading} {textured : Bool} {p0 p1 p2 p3 : Vert}
    (h : quadShape p0 p1 p2 p3 = false ∨ quadLinear textured sh.gouraud p0.a p1.a p2.a p3.a = false) (clip : Rect) :
    quadPixels clip sh textured p0 p1 p2 p3 =
      trianglePixels clip sh p0 p1 p2 ++ trianglePixels clip sh p1 p2 p3 := by
  unfold quadPixels
  rw [if_neg]
  rcases h with h | h <;> simp [h]

end Sys2Proof.Machine
end

section
/-! Clipping and rejection: what a polygon does not draw (R226, R230, R233, R264). -/

namespace Sys2Proof.Machine

/-! ## Clipping (R226, R264) -/

section
variable {clip big : Rect} (hin : ∀ x y, clip.has x y = true → big.has x y = true)
include hin

theorem trianglePixels_filter (sh : Shading) (p q r : Vert) :
    trianglePixels clip sh p q r = (trianglePixels big sh p q r).filter fun p => clip.has p.x p.y := by
  unfold trianglePixels
  cases h : (Tri.sort p q r).rejected with
  | true => simp [Tri.pixels, h]
  | false =>
    rw [Tri.pixels_eq_scan h, Tri.pixels_eq_scan h]
    exact scan_filter (Tri.pixel_atItsCell sh _) hin

theorem quadPixels_filter (sh : Shading) (textured : Bool) (p0 p1 p2 p3 : Vert) :
    quadPixels clip sh textured p0 p1 p2 p3 =
      (quadPixels big sh textured p0 p1 p2 p3).filter fun p => clip.has p.x p.y := by
  unfold quadPixels
  split
  · rw [quadRectPixels_eq_scan, quadRectPixels_eq_scan]
    exact scan_filter (quadRect_atItsCell sh p0 p1 p2) hin
  · rw [List.filter_append, ← trianglePixels_filter hin, ← trianglePixels_filter hin]

theorem PolyCmd.pixels_filter (c : PolyCmd) (ofs : DrawOffset) :
    c.pixels ofs clip = (c.pixels ofs big).filter fun p => clip.has p.x p.y := by
  unfold PolyCmd.pixels
  cases c.w3 with
  | none => exact trianglePixels_filter hin ..
  | some w3 => exact quadPixels_filter hin ..

theorem RectCmd.pixels_filter (c : RectCmd) (ofs : DrawOffset) :
    c.pixels ofs clip = (c.pixels ofs big).filter fun p => clip.has p.x p.y := by
  rw [RectCmd.pixels_eq_scan, RectCmd.pixels_eq_scan]
  exact scan_filter (c.pixel_atItsCell ofs) hin

end

/-- Settles O36: every primitive is one scan, or two of them one after the other, and a scan is filtered by its clip
rectangle. -/
theorem clippingOnlyFilters : Obligations.ClippingOnlyFilters := by
  intro clip big ofs hx0 hy0 hx1 hy1
  have hin : ∀ x y, clip.has x y = true → big.has x y = true := fun x y h => by
    rw [Rect.has_iff] at h ⊢; omega
  exact ⟨fun c => c.pixels_filter hin ofs, fun c => c.pixels_filter hin ofs⟩

/-! ## Sorting (R229) -/

/-- The third vertex keeps or turns the orientation. -/
theorem Tri.area2_insert (p q r : Vert) :
    (Tri.insert p q r).area2 = (Tri.mk p q r).area2 ∨ (Tri.insert p q r).area2 = -(Tri.mk p q r).area2 := by
  unfold Tri.insert Tri.area2
  split
  · left; ring
  · split
    · right; ring
    · left; rfl

/-- Sorting keeps the area up to its sign (R229, R230). -/
theorem Tri.area2_sort (p q r : Vert) :
    (Tri.sort p q r).area2 = (Tri.mk p q r).area2 ∨ (Tri.sort p q r).area2 = -(Tri.mk p q r).area2 := by
  have hswap : (Tri.mk q p r).area2 = -(Tri.mk p q r).area2 := by unfold Tri.area2; ring
  unfold Tri.sort
  split
  · simpa [hswap, or_comm] using Tri.area2_insert q p r
  · exact Tri.area2_insert p q r

theorem Tri.insert_perm (p q r : Vert) :
    [(Tri.insert p q r).a, (Tri.insert p q r).b, (Tri.insert p q r).c].Perm [p, q, r] := by
  unfold Tri.insert
  split
  · exact (List.perm_append_comm (l₁ := [r]) (l₂ := [p, q]))
  · split
    · exact (List.Perm.swap q r []).cons p
    · exact .refl _

theorem Tri.insert_sorted {p q : Vert} (h : p.y ≤ q.y) (r : Vert) :
    (Tri.insert p q r).a.y ≤ (Tri.insert p q r).b.y ∧ (Tri.insert p q r).b.y ≤ (Tri.insert p q r).c.y := by
  unfold Tri.insert
  split
  · next hr => exact ⟨hr.le, h⟩
  · next hr =>
    split
    · next hr' => exact ⟨not_lt.1 hr, hr'.le⟩
    · next hr' => exact ⟨h, not_lt.1 hr'⟩

theorem Tri.sort_perm (p q r : Vert) :
    [(Tri.sort p q r).a, (Tri.sort p q r).b, (Tri.sort p q r).c].Perm [p, q, r] := by
  unfold Tri.sort
  split
  · exact (Tri.insert_perm q p r).trans (.swap p q [r])
  · exact Tri.insert_perm p q r

theorem Tri.sort_sorted (p q r : Vert) :
    (Tri.sort p q r).a.y ≤ (Tri.sort p q r).b.y ∧ (Tri.sort p q r).b.y ≤ (Tri.sort p q r).c.y := by
  unfold Tri.sort
  split
  · exact Tri.insert_sorted (by omega) r
  · exact Tri.insert_sorted (by omega) r

/-! ## Rejection (R230, R233) -/

theorem Tri.rejected_iff (t : Tri) : t.rejected = true ↔ t.a.y = t.c.y ∨
    (t.b.x - t.a.x) * (t.c.y - t.a.y) = (t.c.x - t.a.x) * (t.b.y - t.a.y) ∨
      edgeX ⟨t.a, t.c⟩ t.b.y = t.b.x * 65536 := by
  have hwidth : t.width = edgeX ⟨t.a, t.c⟩ t.b.y - t.b.x * 65536 := rfl
  simp only [Tri.rejected, Tri.area2, hwidth, Bool.or_eq_true, decide_eq_true_eq, sub_eq_zero, or_assoc]

theorem trianglePixels_of_rejected {p q r : Vert} (h : (Tri.sort p q r).rejected = true) (clip : Rect) (sh : Shading) :
    trianglePixels clip sh p q r = [] := by
  simp only [trianglePixels, Tri.pixels, h, if_true]

/-- Settles O35: vertices of one row stay of one row when sorted, and vertices on one line stay on one line. -/
theorem degenerateTriangleDrawsNothing : Obligations.DegenerateTriangleDrawsNothing := by
  intro clip sh p q r h
  refine trianglePixels_of_rejected ?_ clip sh
  rcases h with ⟨hpq, hqr⟩ | hcollinear
  · obtain ⟨ha, -, hc⟩ := Tri.sort_forall (P := fun v => v.y = p.y) rfl hpq.symm (hpq.trans hqr).symm
    exact (Tri.rejected_iff _).2 (.inl (ha.trans hc.symm))
  · have hflat : (Tri.mk p q r).area2 = 0 := sub_eq_zero.2 hcollinear
    have harea : (Tri.sort p q r).area2 = 0 := by
      rcases Tri.area2_sort p q r with e | e <;> rw [e, hflat]
      exact neg_zero
    exact (Tri.rejected_iff _).2 (.inr (.inl (sub_eq_zero.1 harea)))

end Sys2Proof.Machine
end

section
/-! What triangles and quads cover, and with what colours and texels (R222, R225, R227, R229 to R241). -/

namespace Sys2Proof.Machine

/-! ## Attributes of a pixel (R225, R237) -/

theorem clampByte_eq (v : Int) : (clampByte v : Int) = min (max v 0) 255 := by
  unfold clampByte; omega

/-- A pixel made of 16.16 attributes is shaded by their integer parts. -/
theorem Shading.pixel_shadedBy (sh : Shading) (x y : Int) {a : Attrs} {at' : (Attrs → Int) → Int}
    (h : ∀ f ∈ [Attrs.u, Attrs.v, Attrs.r, Attrs.g, Attrs.b], at' f = shr16 (f a)) :
    shadedBy sh at' (sh.pixel x y a) := by
  simp only [List.forall_mem_cons] at h
  obtain ⟨hu, hv, hr, hg, hb, -⟩ := h
  refine ⟨fun hflat => ?_, fun hgour => ?_, ?_, ?_⟩
  · simp [Shading.pixel, hflat]
  · simp [Shading.pixel, hgour, clampByte_eq, hr, hg, hb]
  · simp [Shading.pixel, hu, Int.emod_nonneg]
  · simp [Shading.pixel, hv, Int.emod_nonneg]

/-! ## Triangles (R231 to R237) -/

/-- The edges of a row, as the claims write them, are the model's. -/
theorem Tri.left_right_x (t : Tri) (y : Int) :
    (t.left y).x y = min (edgeX ⟨t.a, t.c⟩ y) (edgeX (shortEdge t y) y) ∧
      (t.right y).x y = max (edgeX ⟨t.a, t.c⟩ y) (edgeX (shortEdge t y) y) := by
  have hlong : edgeX ⟨t.a, t.c⟩ y = t.long.x y := rfl
  have hshort : edgeX (shortEdge t y) y = (t.short y).x y := rfl
  rw [hlong, hshort]
  unfold Tri.left Tri.right
  split
  · next h =>
    have hle : t.long.x y ≤ (t.short y).x y := by
      simp only [Tri.longIsLeft, Bool.or_eq_true, Bool.and_eq_true, decide_eq_true_eq] at h; omega
    exact ⟨(min_eq_left hle).symm, (max_eq_right hle).symm⟩
  · next h =>
    have hle : (t.short y).x y ≤ t.long.x y := by
      simp only [Tri.longIsLeft, Bool.or_eq_true, Bool.and_eq_true, decide_eq_true_eq] at h; omega
    exact ⟨(min_eq_right hle).symm, (max_eq_left hle).symm⟩

/-- On a row whose edges are apart the left edge is the one with the smaller column (R235). -/
theorem Tri.leftEdge_eq {t : Tri} {y : Int} (h : (t.left y).x y < (t.right y).x y) : leftEdge t y = t.left y := by
  have hlong : edgeX ⟨t.a, t.c⟩ y = t.long.x y := rfl
  have hshort : edgeX (shortEdge t y) y = (t.short y).x y := rfl
  unfold leftEdge
  rw [hlong, hshort]
  unfold Tri.left Tri.right at h
  unfold Tri.left
  split at h
  · next hl => rw [if_pos h, if_pos hl]; rfl
  · next hl => rw [if_neg h.not_gt, if_neg hl]; rfl

/-- The pixel of a column of a row has the interpolated attributes (R225, R232, R237). -/
theorem Tri.pixel_shadedBy (sh : Shading) {t : Tri} {y : Int} (h : leftEdge t y = t.left y) (x : Int) :
    shadedBy sh (fun f => triAttr t f x y) (t.pixel sh y x) := by
  refine sh.pixel_shadedBy x y fun f hf => ?_
  unfold triAttr
  rw [h]
  fin_cases hf <;> rfl

/-- The columns of a row, as the claims write them. -/
theorem Tri.column_iff (t : Tri) (x y : Int) :
    (ceil16 ((t.left y).x y) ≤ x ∧ x ≤ ceil16 ((t.right y).x y) - 1) ↔
      (min (edgeX ⟨t.a, t.c⟩ y) (edgeX (shortEdge t y) y) + 65535) / 65536 ≤ x ∧
        x < (max (edgeX ⟨t.a, t.c⟩ y) (edgeX (shortEdge t y) y) + 65535) / 65536 := by
  obtain ⟨hl, hr⟩ := t.left_right_x y
  rw [hl, hr, Int.le_sub_one_iff]; rfl

theorem Tri.pixels_pairwise (clip : Rect) (sh : Shading) (t : Tri) : (t.pixels clip sh).Pairwise Pixel.Before := by
  cases h : t.rejected with
  | true => simp [Tri.pixels, h]
  | false => rw [Tri.pixels_eq_scan h]; exact scan_pairwise (t.pixel_atItsCell sh)

/-- The cells of a triangle that is not rejected (R229, R236). -/
theorem Tri.pixels_covers {t : Tri} (h : t.rejected = false) (clip : Rect) (sh : Shading) (x y : Int) :
    (∃ p ∈ t.pixels clip sh, p.x = x ∧ p.y = y) ↔ (t.a.y ≤ y ∧ y < t.c.y) ∧
      ((min (edgeX ⟨t.a, t.c⟩ y) (edgeX (shortEdge t y) y) + 65535) / 65536 ≤ x ∧
        x < (max (edgeX ⟨t.a, t.c⟩ y) (edgeX (shortEdge t y) y) + 65535) / 65536) ∧ clip.has x y = true := by
  rw [Tri.pixels_eq_scan h, scan_covers (t.pixel_atItsCell sh), t.column_iff, Int.le_sub_one_iff]

/-- A covered row's edges are apart, so its pixels are shaded as the claims say. -/
theorem Tri.pixels_shadedBy {t : Tri} {clip : Rect} {sh : Shading} {p : Pixel} (hp : p ∈ t.pixels clip sh) :
    shadedBy sh (fun f => triAttr t f p.x p.y) p := by
  cases h : t.rejected with
  | true => simp [Tri.pixels, h] at hp
  | false =>
    rw [Tri.pixels_eq_scan h] at hp
    obtain ⟨y, x, -, hx, -, rfl⟩ := mem_scan.1 hp
    have hapart : (t.left y).x y < (t.right y).x y := by
      simp only [ceil16, shr16] at hx; omega
    exact Tri.pixel_shadedBy sh (Tri.leftEdge_eq hapart) x

/-- Settles O37: the sorted triangle is one scan between its left and its right edge. -/
theorem triangleCoversItsCells : Obligations.TriangleCoversItsCells := by
  rintro clip sh p q r t rfl
  refine ⟨⟨Tri.sort_perm p q r, Tri.sort_sorted p q r⟩, Tri.pixels_pairwise clip sh _, fun h => ?_, fun h => ?_⟩
  · exact trianglePixels_of_rejected ((Tri.rejected_iff _).2 h) clip sh
  · rw [← Tri.rejected_iff, Bool.not_eq_true] at h
    exact ⟨Tri.pixels_covers h clip sh, fun _ hpx => Tri.pixels_shadedBy hpx⟩

/-! ## Quads (R239 to R241) -/

/-- The pixels of the rectangle path have the attributes of R240. -/
theorem quadRectPixels_shadedBy {clip : Rect} {sh : Shading} {p0 p1 p2 : Vert} {p : Pixel}
    (hp : p ∈ quadRectPixels clip sh p0 p1 p2) : shadedBy sh (fun f => rectAttr p0 p1 p2 f p.x p.y) p := by
  rw [quadRectPixels_eq_scan] at hp
  obtain ⟨y, x, -, -, -, rfl⟩ := mem_scan.1 hp
  exact sh.pixel_shadedBy x y fun f hf => by fin_cases hf <;> rfl

/-- The cells of the rectangle path: all but the right column and the bottom row (R240). -/
theorem quadRectPixels_covers (clip : Rect) (sh : Shading) (p0 p1 p2 : Vert) (x y : Int) :
    (∃ p ∈ quadRectPixels clip sh p0 p1 p2, p.x = x ∧ p.y = y) ↔
      (p0.x ≤ x ∧ x < p1.x) ∧ (p0.y ≤ y ∧ y < p2.y) ∧ clip.has x y = true := by
  rw [quadRectPixels_eq_scan, scan_covers (quadRect_atItsCell sh p0 p1 p2), Int.le_sub_one_iff, Int.le_sub_one_iff,
    and_left_comm]

/-- Settles O39: the rectangle path is one scan between its corners, the other path the triangles' definition. -/
theorem quadsCoverTheirCells : Obligations.QuadsCoverTheirCells := by
  intro clip sh textured p0 p1 p2 p3
  refine ⟨fun hs hl => ?_, fun h => quadPixels_triangles h clip⟩
  have horder : (quadRectPixels clip sh p0 p1 p2).Pairwise Pixel.Before :=
    scan_pairwise (quadRect_atItsCell sh p0 p1 p2)
  rw [quadPixels_rect hs hl]
  exact ⟨cells_nodup_of_before horder, horder, quadRectPixels_covers clip sh p0 p1 p2,
    fun _ hpx => quadRectPixels_shadedBy hpx⟩

end Sys2Proof.Machine
end

section
/-! A polygon command as a whole (R221, R224, R226, R242). -/

namespace Sys2Proof.Machine

/-- `DM` after the command's own write (R224). -/
def PolyCmd.drawMode (c : PolyCmd) (d : DrawMode) : DrawMode :=
  match c.tex with
  | none => d
  | some (_, a) => d.withPage a

theorem writeMode_eq_drawMode (c : PolyCmd) (s : State) : c.writeMode s = { s with dm := c.drawMode s.dm } := by
  unfold PolyCmd.writeMode PolyCmd.drawMode
  cases c.tex <;> rfl

/-- With an empty clip rectangle a polygon command writes `DM` and does no more (R221). -/
theorem polygon_of_clip_empty {s : State} (h : s.clip.rect.isEmpty = true) (c : PolyCmd) :
    polygon c s = { s with dm := c.drawMode s.dm } := by
  rw [polygon, if_pos h, writeMode_eq_drawMode]

theorem polygon_of_clip_nonempty {s : State} (h : s.clip.rect.isEmpty = false) (c : PolyCmd) :
    polygon c s = c.draw { s with dm := c.drawMode s.dm } := by
  rw [polygon, if_neg (by simp [h]), writeMode_eq_drawMode]

/-- Settles O27: with an empty clip rectangle there is the write of `DM` alone, otherwise the draw and its report inside
the bracket. -/
theorem polygonsDrawTheirPixels : Obligations.PolygonsDrawTheirPixels := by
  intro i c s hc hfree
  rw [exec_polygon hc, locked_free hfree]
  cases hclip : s.clip.rect.isEmpty with
  | true =>
    rw [polygon_of_clip_empty (s := acquireLock s) hclip, polyPixels_empty hclip]
    refine ⟨_, rfl, ?_, rfl, rfl, fun _ _ => rfl, rfl, rfl, fun _ => rfl, fun hbox => ?_⟩
    · simp [releaseLock, emit, acquireLock, hfree]
    · exact absurd ((inter_empty hclip).symm.trans hbox) (by decide)
  | false =>
    rw [polygon_of_clip_nonempty (s := acquireLock s) hclip]
    obtain ⟨t, ht, hframe, hspec⟩ := draw_result c.textured c.raw c.semi c.clut (c.pixels s.ofs s.clip.rect)
      ((c.box s.ofs).inter s.clip.rect) s (c.drawMode s.dm) hfree
    have hdm : t.dm = c.drawMode s.dm := by rw [hframe]
    refine ⟨t, congrArg Host.Outcome.next ht, ?_, hdm, ?_⟩
    · rw [hdm]; exact hframe
    · rw [hdm]; exact hspec

end Sys2Proof.Machine
end

section
/-! What a rectangle covers and what an untextured opaque one writes (R261 to R267, R302). -/

namespace Sys2Proof.Machine

/-! ## The cells of a rectangle (R261 to R265) -/

theorem RectCmd.pixels_pairwise (c : RectCmd) (ofs : DrawOffset) (clip : Rect) :
    (c.pixels ofs clip).Pairwise Pixel.Before := scan_pairwise (c.pixel_atItsCell ofs)

theorem RectCmd.eq_pixel_of_mem {c : RectCmd} {ofs : DrawOffset} {clip : Rect} {p : Pixel}
    (hp : p ∈ c.pixels ofs clip) : p = c.pixel ofs p.y p.x := by
  rw [RectCmd.pixels_eq_scan] at hp
  obtain ⟨y, x, -, -, -, rfl⟩ := mem_scan.1 hp
  rfl

/-- A rectangle covers its extent inside the clip rectangle (R261, R262). -/
theorem RectCmd.pixels_covers (c : RectCmd) (ofs : DrawOffset) (clip : Rect) (x y : Int) :
    (∃ p ∈ c.pixels ofs clip, p.x = x ∧ p.y = y) ↔ ((c.extent ofs).inter clip).has x y = true := by
  rw [RectCmd.pixels_eq_scan, scan_covers (c.pixel_atItsCell ofs), Rect.has_inter, Rect.has_iff (r := c.extent ofs)]
  exact and_left_comm.trans and_assoc.symm

/-- The extent counts `w` columns and `h` rows from the offset corner (R262). -/
theorem RectCmd.extent_has_iff (c : RectCmd) (ofs : DrawOffset) (x y : Int) : (c.extent ofs).has x y = true ↔
    ((vertex ofs c.p).1 ≤ x ∧ x < (vertex ofs c.p).1 + c.w) ∧
      ((vertex ofs c.p).2 ≤ y ∧ y < (vertex ofs c.p).2 + c.h) := by
  rw [Rect.has_iff, RectCmd.extent, Int.le_sub_one_iff, Int.le_sub_one_iff]

/-- Texel coordinates wrap at 256 (R263). -/
theorem texelCoordinate_eq_emod (n : Int) : ((BitVec.ofInt 8 n).toNat : Int) = n % 256 := by
  simp [Int.emod_nonneg]

/-- Settles O29: a rectangle is one scan of its extent, and a pixel is made from its cell alone. -/
theorem rectangleCoversItsExtent : Obligations.RectangleCoversItsExtent := by
  intro c ofs clip
  have horder := c.pixels_pairwise ofs clip
  refine ⟨cells_nodup_of_before horder, horder, fun x y => ?_, fun p hp => ?_⟩
  · rw [RectCmd.pixels_covers, Rect.has_inter, RectCmd.extent_has_iff, and_assoc]
  · rw [RectCmd.eq_pixel_of_mem hp]
    exact ⟨rfl, rfl, rfl, texelCoordinate_eq_emod _, texelCoordinate_eq_emod _⟩

/-! ## The command as a whole (R261, R266) -/

/-- Settles O28: with an empty clip rectangle there is no pixel and nothing to report, otherwise the draw and its report
stand inside the bracket. -/
theorem rectanglesDrawTheirPixels : Obligations.RectanglesDrawTheirPixels := by
  intro i c s hc hfree
  rw [exec_rectangle hc, locked_free hfree]
  cases hclip : s.clip.rect.isEmpty with
  | true =>
    have hnone : rectangle c (acquireLock s) = acquireLock s := if_pos hclip
    rw [hnone, rectPixels_empty hclip]
    refine ⟨_, rfl, ?_, rfl, fun _ _ => rfl, rfl, rfl, fun _ => rfl, fun hbox => ?_⟩
    · simp [releaseLock, emit, acquireLock, hfree]
    · exact absurd ((inter_empty hclip).symm.trans hbox) (by decide)
  | false =>
    have hdraw : rectangle c (acquireLock s) = c.draw (acquireLock s) := if_neg (ne_true_of_eq_false hclip)
    rw [hdraw]
    obtain ⟨t, ht, hframe, hspec⟩ := draw_result c.textured c.raw c.semi c.clut (c.pixels s.ofs s.clip.rect)
      ((c.extent s.ofs).inter s.clip.rect) s s.dm hfree
    exact ⟨t, congrArg Host.Outcome.next ht, hframe, hspec⟩

/-! ## Opaque pixels without a texture (R300, R302) -/

/-- The mask bit of a written pixel is ORed in (R300, R309). -/
theorem pixelOf_eq_orMask (c : Rgb5) (b : Bool) : pixelOf c b = orMask (pixelOf c false) b := by
  cases b with
  | false => exact BitVec.or_zero.symm
  | true => simp [pixelOf, orMask, BitVec.ofNat_or]

/-- A pixel of a cell no pixel of the draw names is kept. -/
theorem plotAll_read_frame (m : RenderMode) (v : Vram) {ps : List Pixel} {x y : Int}
    (h : ∀ p ∈ ps, cellIndex x y ≠ cellIndex p.x p.y) : (plotAll m v ps).read x y = v.read x y :=
  Vram.read_congr fun _ ha => plotAll_byte_frame m v ps fun p hp hcell => h p hp (ha.symm.trans hcell)

section
variable {m : RenderMode} (htex : m.textured = false) (hsemi : m.semi = false) (hchk : m.chk = false)
include htex hsemi hchk

/-- Such a pixel is written whatever its cell holds. -/
theorem plot_flat (v : Vram) (p : Pixel) :
    plot m v p = v.write p.x p.y (pixelOf (rgb5OfColour p.r p.g p.b) m.set) := by
  simp [plot, source, plotValue, blended, htex, hsemi, hchk]

/-- Pixels of one colour leave it in every cell they name, however often they name it. -/
theorem plotAll_flat_read {col : Rgb5} {ps : List Pixel} (hcol : ∀ p ∈ ps, rgb5OfColour p.r p.g p.b = col) (v : Vram)
    {x y : Int} (hcell : ∃ p ∈ ps, cellIndex x y = cellIndex p.x p.y) :
    (plotAll m v ps).read x y = pixelOf col m.set := by
  induction ps generalizing v with
  | nil => simp at hcell
  | cons q t ih =>
    obtain ⟨hq, ht⟩ := List.forall_mem_cons.1 hcol
    rw [plotAll_cons]
    by_cases hlater : ∃ p ∈ t, cellIndex x y = cellIndex p.x p.y
    · exact ih ht _ hlater
    · have hfirst : cellIndex x y = cellIndex q.x q.y := by simpa [hlater] using hcell
      rw [plotAll_read_frame m _ fun p hp he => hlater ⟨p, hp, he⟩, plot_flat htex hsemi hchk, Vram.read_write,
        if_pos hfirst, hq]

end

/-- Inside VRAM no two cells share a number (R77, R80). -/
theorem cell_eq_of_cellIndex {r : Rect} (hr : r.insideVram) {x y : Int} (h : r.has x y = true) {x' y' : Nat}
    (hx : x' < 1024) (hy : y' < 512) (hcell : cellIndex x' y' = cellIndex x y) : x = x' ∧ y = y' := by
  obtain ⟨⟨hx0, hx1⟩, hy0, hy1⟩ := hr
  obtain ⟨hxr, hyr⟩ := Rect.has_iff.1 h
  obtain ⟨hcx, hcy⟩ := (cellIndex_eq_iff ..).1 hcell
  omega

/-- The pixels of a rectangle have its colour, reduced by truncation (R267, R302). -/
theorem RectCmd.pixels_colour (c : RectCmd) (ofs : DrawOffset) (clip : Rect) :
    ∀ p ∈ c.pixels ofs clip, rgb5OfColour p.r p.g p.b = rgb5OfColour c.c.r.toNat c.c.g.toNat c.c.b.toNat := by
  intro p hp
  rw [RectCmd.eq_pixel_of_mem hp]
  rfl

/-- Settles O30: the cells of VRAM the pixels name are those of the clipped extent, and each pixel writes one value
whatever its cell held. -/
theorem flatRectangleWritesItsColour : Obligations.FlatRectangleWritesItsColour := by
  intro i c s hc htex hsemi hfree hchk
  obtain ⟨t, ht, -, hnative, -⟩ := rectanglesDrawTheirPixels i c s hc hfree
  refine ⟨t, ht, fun x y hx hy => ?_⟩
  have hread : t.vram.read x y = (plotAll (s.mode c.textured c.raw c.semi c.clut) s.vram
      (c.pixels s.ofs s.clip.rect)).read x y := congrArg (fun n => cellOf n x y) hnative
  rw [hread]
  split
  · next hin =>
    obtain ⟨p, hp, hpx, hpy⟩ := (c.pixels_covers s.ofs s.clip.rect x y).2 hin
    have huntextured : c.textured = false := by rw [RectCmd.textured, htex]; rfl
    have hwritten := plotAll_flat_read (m := s.mode c.textured c.raw c.semi c.clut) huntextured hsemi hchk
      (c.pixels_colour s.ofs s.clip.rect) s.vram ⟨p, hp, by rw [hpx, hpy]⟩
    exact hwritten.trans (pixelOf_eq_orMask ..)
  · next hout =>
    refine plotAll_read_frame _ _ fun p hp hcell => hout ?_
    have hhas := RectCmd.pixels_has hp
    obtain ⟨hpx, hpy⟩ := cell_eq_of_cellIndex (Rect.inter_insideVram _ (clip_insideVram _)) hhas hx hy hcell
    rwa [hpx, hpy] at hhas

end Sys2Proof.Machine
end

section
/-! The walk of a segment in closed form, and the colours of its pixels (R283 to R285). -/

namespace Sys2Proof.Machine

/-! ## The cells of a walk (R285) -/

/-- The minor steps among the first `i` major ones, the accumulator starting at `count >> 1` (R283, R285). -/
def Walk.advances (k : Walk) (i : Nat) : Nat := (i * k.m + k.count - 1 - k.count / 2) / k.count

@[simp] theorem Walk.cells_length (k : Walk) (n : Nat) (p : Int × Int) (acc : Int) :
    (k.cells n p acc).length = n + 1 := by
  induction n generalizing p acc with
  | zero => rfl
  | succ n ih => simp only [Walk.cells, List.length_cons, apply_ite List.length, ih, ite_self]

/-- The `i`-th cell of a walk: the accumulator stays in `0 .. count - 1`, so the minor steps taken are those that
`i * m` major steps have paid for (R285). -/
theorem Walk.cells_getElem? {k : Walk} {n i acc : Nat} {p : Int × Int} (hacc : acc < k.count) (hm : k.m ≤ k.count)
    (hi : i ≤ n) :
    (k.cells n p acc)[i]? = some (k.after p i ((i * k.m + k.count - 1 - acc) / k.count)) := by
  induction n generalizing p acc i with
  | zero =>
    obtain rfl : i = 0 := by omega
    rw [Nat.div_eq_of_lt (by omega)]
    simp [Walk.cells, Walk.after]
  | succ n ih =>
    rw [Walk.cells]
    cases i with
    | zero =>
      rw [Nat.div_eq_of_lt (by omega)]
      simp [Walk.after]
    | succ i =>
      rw [List.getElem?_cons_succ, Nat.succ_mul]
      by_cases hneg : acc < k.m
      · have hnext : (acc : Int) - k.m + k.count = (acc + k.count - k.m : Nat) := by omega
        have hsum : i * k.m + k.m + k.count - 1 - acc = i * k.m + k.count - 1 - (acc + k.count - k.m) + k.count := by
          omega
        rw [if_pos (by omega), hnext, ih (by omega) (by omega), k.after_minor, k.after_major, hsum,
          Nat.add_div_right _ (by omega)]
      · have hnext : (acc : Int) - k.m = (acc - k.m : Nat) := by omega
        have hsum : i * k.m + k.m + k.count - 1 - acc = i * k.m + k.count - 1 - (acc - k.m) := by omega
        rw [if_neg (by omega), hnext, ih (by omega) (by omega), k.after_major, hsum]

/-! ## How many minor steps (R285) -/

theorem Walk.advances_zero (k : Walk) : k.advances 0 = 0 := by
  unfold Walk.advances
  rcases Nat.eq_zero_or_pos k.count with hz | hpos
  · rw [hz, Nat.div_zero]
  · exact Nat.div_eq_of_lt (by omega)

/-- Over the `count` steps the minor axis advances `m` times (R285). -/
theorem Walk.advances_count {k : Walk} (hm : k.m ≤ k.count) : k.advances k.count = k.m := by
  unfold Walk.advances
  rcases Nat.eq_zero_or_pos k.count with hz | hpos
  · rw [hz, Nat.div_zero]; omega
  · rw [show k.count * k.m + k.count - 1 - k.count / 2 = k.count - 1 - k.count / 2 + k.count * k.m by omega,
      Nat.add_mul_div_left _ _ hpos, Nat.div_eq_of_lt (by omega), Nat.zero_add]

/-- A major step takes at most one minor step with it (R285). -/
theorem Walk.advances_succ {k : Walk} (hpos : 0 < k.count) (hm : k.m ≤ k.count) (i : Nat) :
    k.advances (i + 1) = k.advances i ∨ k.advances (i + 1) = k.advances i + 1 := by
  unfold Walk.advances
  have hsum : (i + 1) * k.m + k.count - 1 - k.count / 2 = i * k.m + k.count - 1 - k.count / 2 + k.m := by
    rw [Nat.succ_mul]; omega
  have hlow := Nat.div_le_div_right (c := k.count)
    (Nat.le_add_right (i * k.m + k.count - 1 - k.count / 2) k.m)
  have hhigh := Nat.div_le_div_right (c := k.count)
    (Nat.add_le_add_left hm (i * k.m + k.count - 1 - k.count / 2))
  rw [Nat.add_div_right _ hpos] at hhigh
  rw [hsum]
  omega

/-! ## The cells of a segment (R283, R285) -/

theorem Walk.of_m_le (p0 p1 : Int × Int) : (Walk.of p0 p1).m ≤ (Walk.of p0 p1).count := by
  simp only [Walk.of, lineCount]; omega

theorem lineCells_length (p0 p1 : Int × Int) : (lineCells p0 p1).length = (Walk.of p0 p1).count + 1 :=
  Walk.cells_length ..

theorem lineCells_getElem? {p0 p1 : Int × Int} {i : Nat} (hi : i ≤ (Walk.of p0 p1).count) :
    (lineCells p0 p1)[i]? = some ((Walk.of p0 p1).after p0 i ((Walk.of p0 p1).advances i)) := by
  unfold lineCells
  rcases Nat.eq_zero_or_pos (Walk.of p0 p1).count with hz | hpos
  · obtain rfl : i = 0 := by omega
    rw [hz, Walk.advances_zero]
    simp [Walk.cells, Walk.after]
  · exact Walk.cells_getElem? (by omega) (Walk.of_m_le ..) hi

theorem lineCells_getElem {p0 p1 : Int × Int} {i : Nat} (hi : i < (lineCells p0 p1).length) :
    (lineCells p0 p1)[i] = (Walk.of p0 p1).after p0 i ((Walk.of p0 p1).advances i) := by
  rw [lineCells_length] at hi
  exact (List.getElem_eq_iff _).2 (lineCells_getElem? (by omega))

/-- The two forms of a walk's cell, by the major axis (R283, R285). -/
theorem Walk.of_after (p0 p1 : Int × Int) (i j : Nat) : (Walk.of p0 p1).after p0 i j =
    if (p1.1 - p0.1).natAbs ≥ (p1.2 - p0.2).natAbs then
      (p0.1 + lineSign (p1.1 - p0.1) * i, p0.2 + lineSign (p1.2 - p0.2) * j)
    else (p0.1 + lineSign (p1.1 - p0.1) * j, p0.2 + lineSign (p1.2 - p0.2) * i) := by
  simp only [Walk.after, Walk.of, decide_eq_true_eq]

theorem lineSign_mul_natAbs (d : Int) : lineSign d * d.natAbs = d := by
  unfold lineSign; split <;> omega

/-- After `count` major and `m` minor steps the walk is at the second endpoint (R285). -/
theorem Walk.of_after_count (p0 p1 : Int × Int) :
    (Walk.of p0 p1).after p0 (Walk.of p0 p1).count (Walk.of p0 p1).m = p1 := by
  have hx := lineSign_mul_natAbs (p1.1 - p0.1)
  have hy := lineSign_mul_natAbs (p1.2 - p0.2)
  rw [Walk.of_after]
  simp only [Walk.of, lineCount]
  split
  · next h => rw [max_eq_left h, min_eq_right h, hx, hy]; ext <;> simp
  · next h => rw [max_eq_right (by omega), min_eq_left (by omega), hx, hy]; ext <;> simp

theorem lineCells_head? (p0 p1 : Int × Int) : (lineCells p0 p1).head? = some p0 := by
  rw [List.head?_eq_getElem?, lineCells_getElem? (Nat.zero_le _), Walk.advances_zero]
  simp [Walk.after]

theorem lineCells_getLast? (p0 p1 : Int × Int) : (lineCells p0 p1).getLast? = some p1 := by
  rw [List.getLast?_eq_getElem?, lineCells_length, Nat.add_sub_cancel, lineCells_getElem? le_rfl,
    Walk.advances_count (Walk.of_m_le ..), Walk.of_after_count]

theorem natAbs_lineSign_steps (a d : Int) (i j : Nat) :
    (a + lineSign d * i - (a + lineSign d * j)).natAbs = ((i : Int) - j).natAbs := by
  unfold lineSign; split <;> omega

/-- Cells one major step and at most one minor step apart (R285). -/
theorem Walk.of_after_step (p0 p1 : Int × Int) (i : Nat) {j j' : Nat} (hj : j' = j ∨ j' = j + 1) :
    max (((Walk.of p0 p1).after p0 (i + 1) j').1 - ((Walk.of p0 p1).after p0 i j).1).natAbs
      (((Walk.of p0 p1).after p0 (i + 1) j').2 - ((Walk.of p0 p1).after p0 i j).2).natAbs = 1 := by
  rw [Walk.of_after, Walk.of_after]
  split <;> simp only [natAbs_lineSign_steps] <;> omega

/-! ## The colours of a segment (R284) -/

theorem lineChannel_eq (count : Nat) (a b : BitVec 8) (i : Nat) :
    (lineChannel count a b i : Int) = min (max (((a.toNat : Int) * 65536 +
      (if count = 0 then 0 else Int.tdiv (((b.toNat : Int) - a.toNat) * 65536) count) * i) / 65536) 0) 255 :=
  clampByte_eq _

/-- Between equal ends a channel does not change (R284). -/
theorem lineChannel_flat (count : Nat) (a : BitVec 8) (i : Nat) : lineChannel count a a i = a.toNat := by
  have h := lineChannel_eq count a a i
  have := a.isLt
  rw [sub_self, Int.zero_mul, Int.zero_tdiv, ite_self, Int.zero_mul] at h
  omega

/-- The `i`-th pixel is made of the `i`-th cell (R284, R285). -/
theorem exists_linePixel_of_getElem? {p0 p1 : Int × Int} {c0 c1 : Rgb} {i : Nat} {px : Pixel}
    (h : (linePixels p0 p1 c0 c1)[i]? = some px) : ∃ p, px = linePixel (Walk.of p0 p1).count c0 c1 p i := by
  rw [linePixels, List.getElem?_mapIdx, Option.map_eq_some_iff] at h
  obtain ⟨p, -, rfl⟩ := h
  exact ⟨p, rfl⟩

theorem linePixels_cells (p0 p1 : Int × Int) (c0 c1 : Rgb) :
    (linePixels p0 p1 c0 c1).map (fun px => (px.x, px.y)) = lineCells p0 p1 := by
  refine List.ext_getElem? fun i => ?_
  rw [linePixels, List.getElem?_map, List.getElem?_mapIdx, Option.map_map]
  exact Option.map_id' ..

/-- Settles O34: the closed form gives the ends and the steps, the box is `lineCells_has`, and a pixel's colour depends
on its index alone. -/
theorem lineWalkReachesItsEnd : Obligations.LineWalkReachesItsEnd := by
  refine ⟨?_, fun p0 p1 c0 c1 => ⟨linePixels_cells .., ?_⟩, fun p0 p1 => ⟨lineCells_length .., lineCells_head? ..,
    lineCells_getLast? .., fun _ => lineCells_has, fun k h => ?_⟩⟩
  · rintro p0 p1 i count m sx sy adv rfl rfl rfl rfl rfl hi
    exact (lineCells_getElem? hi).trans (congrArg some (Walk.of_after ..))
  · rintro i count px rfl hpx
    obtain ⟨p, rfl⟩ := exists_linePixel_of_getElem? hpx
    refine ⟨?_, fun k a b hk => ?_⟩
    · rintro rfl
      exact ⟨lineChannel_flat .., lineChannel_flat .., lineChannel_flat ..⟩
    · simp only [List.mem_cons, List.not_mem_nil, or_false, Prod.mk.injEq] at hk
      rcases hk with ⟨rfl, rfl, rfl⟩ | ⟨rfl, rfl, rfl⟩ | ⟨rfl, rfl, rfl⟩ <;> exact lineChannel_eq ..
  · have hcount : 0 < (Walk.of p0 p1).count := by rw [lineCells_length] at h; omega
    rw [lineCells_getElem, lineCells_getElem]
    exact Walk.of_after_step _ _ _ (Walk.advances_succ hcount (Walk.of_m_le ..) k)

end Sys2Proof.Machine
end

section
/-! The line commands as a whole (R281, R282, R286, R293). -/

namespace Sys2Proof.Machine

/-! ## What a segment changes (R282, R286) -/

section
variable (p0 p1 : Int × Int) (c0 c1 : Rgb) (semi : Bool) (s : State)

theorem segment_of_rejected {p0 p1 : Int × Int} {s : State} (h : lineAccepted s.clip p0 p1 = false) :
    segment p0 p1 c0 c1 semi s = s := by
  simp [segment, h]

theorem segment_frame : segment p0 p1 c0 c1 semi s = { s with
    vram := (segment p0 p1 c0 c1 semi s).vram, tpc := (segment p0 p1 c0 c1 semi s).tpc,
    dirty := (segment p0 p1 c0 c1 semi s).dirty } := by
  rcases segment_cases p0 p1 c0 c1 semi s with ⟨-, hu⟩ | ⟨-, u, hu, hframe, -⟩
  · rw [hu]
  · rw [hu, hframe]

/-- The pixels a segment plots: none where it is not accepted (R282). -/
theorem segment_native : (segment p0 p1 c0 c1 semi s).vram.native = (plotAll (s.mode false false semi noClut) s.vram
    (if lineAccepted s.clip p0 p1 then linePixels p0 p1 c0 c1 else [])).native := by
  rcases segment_cases p0 p1 c0 c1 semi s with ⟨ha, hu⟩ | ⟨ha, u, hu, -, hnative, -⟩
  · rw [hu, ha]; rfl
  · rw [hu, ha]; exact hnative

theorem segment_byte_frame {p0 p1 : Int × Int} {a : Nat}
    (ha : ∀ p ∈ lineCells p0 p1, a / 2 ≠ cellIndex p.1 p.2) :
    vramByte (segment p0 p1 c0 c1 semi s).vram.native a = vramByte s.vram.native a := by
  rw [segment_native]
  refine plotAll_byte_frame _ _ _ fun p hp => ?_
  split at hp
  · exact ha _ (linePixels_cell hp)
  · exact absurd hp List.not_mem_nil

@[simp] theorem segment_fmt : (segment p0 p1 c0 c1 semi s).vram.fmt = s.vram.fmt := by
  rcases segment_cases p0 p1 c0 c1 semi s with ⟨-, hu⟩ | ⟨-, u, hu, -, -, hfmt, -⟩
  · rw [hu]
  · rw [hu, hfmt]

@[simp] theorem segment_tags : (segment p0 p1 c0 c1 semi s).vram.tags = s.vram.tags := by
  rcases segment_cases p0 p1 c0 c1 semi s with ⟨-, hu⟩ | ⟨-, u, hu, -, -, -, htags, -⟩
  · rw [hu]
  · rw [hu, htags]

theorem segment_dirty : (segment p0 p1 c0 c1 semi s).dirty =
    if lineAccepted s.clip p0 p1 then some (bbox s.dirty (lineBox p0 p1)) else s.dirty := by
  rcases segment_cases p0 p1 c0 c1 semi s with ⟨ha, hu⟩ | ⟨ha, u, hu, hframe, -⟩
  · rw [hu, ha]; rfl
  · rw [hu, ha, hframe]; rfl

/-- No page that reads from the box of an accepted segment stays valid (R286, R333). -/
theorem segment_tpc_disjoint {p0 p1 : Int × Int} {s : State} (ha : lineAccepted s.clip p0 p1 = true) :
    ∀ e ∈ (segment p0 p1 c0 c1 semi s).tpc, footprintMeets e (lineBox p0 p1) = false := by
  intro e he
  rcases segment_cases p0 p1 c0 c1 semi s with ⟨hn, -⟩ | ⟨-, u, hu, -, -, -, -, htpc⟩
  · simp [ha] at hn
  · rw [hu, htpc] at he
    simpa using (List.mem_filter.1 he).2

end

/-! ## Single lines (R281) -/

/-- Settles O31: the command is its segment inside the bracket. -/
theorem linesDrawWhenInside : Obligations.LinesDrawWhenInside := by
  intro i c s hc hsingle hfree
  have hexec : exec i s = .next (releaseLock (segment (vertex s.ofs c.v0) (vertex s.ofs c.v1) c.c0 c.c1 c.semi
      (acquireLock s))) := by
    rw [exec_lineOrPolyline hc, hsingle, locked_free hfree]; rfl
  rw [hexec]
  refine ⟨fun ha => ?_, fun ha => ⟨_, rfl, ?_, ?_, fun _ hout => segment_byte_frame _ _ _ _ hout, segment_fmt ..,
    segment_tags .., ?_, segment_tpc_disjoint _ _ _ ha⟩⟩
  · rw [segment_of_rejected (s := acquireLock s) _ _ _ ha]
    simp [releaseLock, emit, acquireLock, hfree]
  · conv_lhs => rw [segment_frame]
    simp [releaseLock, emit, acquireLock, hfree]
  · exact (segment_native ..).trans (congrArg (fun ps => (plotAll _ _ ps).native) (if_pos ha))
  · exact (segment_dirty ..).trans (if_pos ha)

/-! ## Polylines (R281, R293) -/

/-- What a polyline asked to be semi-transparent does before its first cell: the first time, the sticky bit and one event
(R293, R402). -/
theorem raiseDiag_semiPolyline_if (semi : Bool) (s : State) :
    (if semi then raiseDiag .semiPolyline s else s) = { s with
      diagSemiPolyline := s.diagSemiPolyline || semi,
      trace := s.trace ++ if semi && !s.diagSemiPolyline then [.diag .semiPolyline] else [] } := by
  cases semi with
  | false => simp
  | true =>
    rw [if_pos rfl, Bool.or_true, Bool.true_and]
    rcases raiseDiag_cases .semiPolyline s with ⟨hd, he⟩ | ⟨hd, he⟩
    · replace hd : s.diagSemiPolyline = true := hd
      rw [he, hd, if_neg (by decide), List.append_nil, ← hd]
    · replace hd : s.diagSemiPolyline = false := hd
      rw [he, hd]; rfl

/-- Settles O32: the diagnostic, the first segment, opaque, and the data phase's registers, inside the bracket. -/
theorem polylinesOpenTheirDataPhase : Obligations.PolylinesOpenTheirDataPhase := by
  intro i c s hc hpoly hfree
  have hexec : exec i s = .next (releaseLock (polyline (polyKind i) c (acquireLock s))) := by
    rw [exec_lineOrPolyline hc, hpoly, locked_free hfree]; rfl
  rw [hexec, polyline, raiseDiag_semiPolyline_if]
  refine ⟨_, rfl, ?_, segment_native .., fun _ hout => segment_byte_frame _ _ _ _ hout, segment_fmt ..,
    segment_tags .., segment_dirty ..⟩
  conv_lhs => rw [segment_frame]
  simp [releaseLock, emit, acquireLock, openPolyline, hfree]

end Sys2Proof.Machine
end

section
/-! The pixel pipeline: what `Plot` leaves in its cell (R300 to R309), and the texel it fetches (R304, R330). -/

namespace Sys2Proof.Machine

/-! ## The channels of a colour (R12) -/

/-- The channel of a colour that a native pixel holds from bit `lo` on: red at 0, green at 5, blue at 10. -/
def Rgb5.channel (c : Rgb5) : Nat → Nat
  | 0 => c.r
  | 5 => c.g
  | _ => c.b

/-- Every channel of a colour fits in the five bits a native pixel has for it. -/
structure Rgb5.InRange (c : Rgb5) : Prop where
  r : c.r < 32
  g : c.g < 32
  b : c.b < 32

/-- The list the obligations run over pairs the first bit of each channel with the draw colour's factor there. -/
theorem mem_channels {lo k r g b : Nat} (h : (lo, k) ∈ [(0, r), (5, g), (10, b)]) :
    (lo = 0 ∨ lo = 5 ∨ lo = 10) ∧ k = Rgb5.channel ⟨r, g, b⟩ lo := by
  simp only [List.mem_cons, Prod.mk.injEq, List.not_mem_nil, or_false] at h
  rcases h with ⟨rfl, rfl⟩ | ⟨rfl, rfl⟩ | ⟨rfl, rfl⟩
  · exact ⟨.inl rfl, rfl⟩
  · exact ⟨.inr (.inl rfl), rfl⟩
  · exact ⟨.inr (.inr rfl), rfl⟩

theorem rgb5Of_channel (p : BitVec 16) {lo : Nat} (hlo : lo = 0 ∨ lo = 5 ∨ lo = 10) :
    (rgb5Of p).channel lo = (p.extractLsb' lo 5).toNat := by
  rcases hlo with rfl | rfl | rfl <;> rfl

theorem rgb5OfColour_channel (r g b lo : Nat) :
    (rgb5OfColour r g b).channel lo = Rgb5.channel ⟨r, g, b⟩ lo / 8 := by
  unfold Rgb5.channel
  split <;> exact Nat.shiftRight_eq_div_pow _ 3

/-- Modulation of one channel, with the shift as a quotient (R305). -/
theorem modulate_eq_div (c k : Nat) : modulate c k = min 31 (c * k / 128) :=
  congrArg (min 31) (Nat.shiftRight_eq_div_pow _ 7)

theorem modulateRgb_channel (c : Rgb5) (r g b lo : Nat) :
    (modulateRgb c r g b).channel lo = modulate (c.channel lo) (Rgb5.channel ⟨r, g, b⟩ lo) := by
  unfold Rgb5.channel
  split <;> rfl

/-- The four blend functions, with their shifts as quotients (R308). -/
theorem blend_eq_div (abr : BitVec 2) (dst src : Nat) :
    blend abr dst src = match abr.toNat with
      | 0 => (dst + src) / 2
      | 1 => min 31 (dst + src)
      | 2 => dst - src
      | _ => min 31 (dst + src / 4) := by
  have hhalf : (dst + src) >>> 1 = (dst + src) / 2 := Nat.shiftRight_eq_div_pow _ 1
  have hquarter : src >>> 2 = src / 4 := Nat.shiftRight_eq_div_pow _ 2
  rw [← hhalf, ← hquarter]
  rfl

theorem blendRgb_channel (abr : BitVec 2) (dst src : Rgb5) (lo : Nat) :
    (blendRgb abr dst src).channel lo = blend abr (dst.channel lo) (src.channel lo) := by
  unfold Rgb5.channel
  split <;> rfl

/-! ## No channel leaves its five bits (R302, R305, R308) -/

theorem rgb5Of_inRange (p : BitVec 16) : (rgb5Of p).InRange :=
  ⟨BitVec.isLt _, BitVec.isLt _, BitVec.isLt _⟩

theorem rgb5OfColour_inRange {r g b : Nat} (hr : r < 256) (hg : g < 256) (hb : b < 256) :
    (rgb5OfColour r g b).InRange := by
  have hshift : ∀ {k : Nat}, k < 256 → k >>> 3 < 32 := fun {k} hk => by
    rw [Nat.shiftRight_eq_div_pow]; omega
  exact ⟨hshift hr, hshift hg, hshift hb⟩

theorem modulateRgb_inRange (c : Rgb5) (r g b : Nat) : (modulateRgb c r g b).InRange := by
  have hmin : ∀ c k : Nat, modulate c k < 32 := fun _ _ => Nat.lt_succ_of_le (Nat.min_le_left ..)
  exact ⟨hmin .., hmin .., hmin ..⟩

/-- A sum is halved or saturates, and a difference is at most what it is taken from. -/
theorem blend_lt (abr : BitVec 2) {dst src : Nat} (hd : dst < 32) (hs : src < 32) : blend abr dst src < 32 := by
  rw [blend_eq_div]
  split <;> omega

theorem blended_inRange {c : Rgb5} (hc : c.InRange) (m : RenderMode) (d : BitVec 16) (sm : Bool) :
    (blended m d c sm).InRange := by
  have hd := rgb5Of_inRange d
  unfold blended
  split
  · exact ⟨blend_lt _ hd.r hc.r, blend_lt _ hd.g hc.g, blend_lt _ hd.b hc.b⟩
  · exact hc

/-! ## The native pixel of a colour (R300, R309) -/

/-- With its channels in range a pixel is its four fields side by side. -/
theorem pixelOf_eq_append {c : Rgb5} (hc : c.InRange) (sm : Bool) :
    pixelOf c sm = bit sm ++ BitVec.ofNat 5 c.b ++ BitVec.ofNat 5 c.g ++ BitVec.ofNat 5 c.r := by
  obtain ⟨hr, hg, hb⟩ := hc
  have hfields : c.r ||| c.g <<< 5 ||| c.b <<< 10 ||| (if sm then 1 else 0) <<< 15 =
      (bit sm ++ BitVec.ofNat 5 c.b ++ BitVec.ofNat 5 c.g ++ BitVec.ofNat 5 c.r).toNat := by
    have hbit : (bit sm).toNat = if sm then 1 else 0 := by cases sm <;> rfl
    simp only [BitVec.toNat_append, BitVec.toNat_ofNat, Nat.reducePow, Nat.mod_eq_of_lt hr, Nat.mod_eq_of_lt hg,
      Nat.mod_eq_of_lt hb, hbit, Nat.shiftLeft_or_distrib, ← Nat.shiftLeft_add]
    ac_rfl
  rw [pixelOf, hfields, BitVec.ofNat_toNat, BitVec.setWidth_eq]

theorem rgb5Of_pixelOf {c : Rgb5} (hc : c.InRange) (sm : Bool) : rgb5Of (pixelOf c sm) = c := by
  rw [pixelOf_eq_append hc, rgb5Of]
  simp (disch := decide) only [BitVec.extractLsb'_append_eq_of_le,
    BitVec.extractLsb'_append_eq_of_add_le, BitVec.extractLsb'_eq_self, Nat.reduceSub, BitVec.toNat_ofNat]
  obtain ⟨hr, hg, hb⟩ := hc
  simp [Nat.mod_eq_of_lt, *]

theorem getLsbD_pixelOf_mask {c : Rgb5} (hc : c.InRange) (sm : Bool) : (pixelOf c sm).getLsbD 15 = sm := by
  have hfield : (pixelOf c sm).extractLsb' 15 1 = bit sm := by
    rw [pixelOf_eq_append hc]
    simp (disch := decide) only [BitVec.extractLsb'_append_eq_of_le, BitVec.extractLsb'_eq_self, Nat.reduceSub]
  simpa [bit] using congrArg (fun x => x.getLsbD 0) hfield

/-- Pixels of one colour agree on all bits but the mask bit. -/
theorem colourBits_eq_of_rgb5Of {p q : BitVec 16} (h : rgb5Of p = rgb5Of q) :
    p.extractLsb' 0 15 = q.extractLsb' 0 15 := by
  obtain ⟨hr, hg, hb⟩ := Rgb5.mk.inj h
  replace hr := extract_eq_iff.1 (BitVec.eq_of_toNat_eq hr)
  replace hg := extract_eq_iff.1 (BitVec.eq_of_toNat_eq hg)
  replace hb := extract_eq_iff.1 (BitVec.eq_of_toNat_eq hb)
  refine extract_eq_iff.2 fun i _ hi => ?_
  rcases (by omega : i < 5 ∨ (5 ≤ i ∧ i < 10) ∨ 10 ≤ i) with h | h | h
  · exact hr i (by omega) (by omega)
  · exact hg i (by omega) (by omega)
  · exact hb i (by omega) (by omega)

/-! ## What `Plot` leaves in its cell (R300, R301, R307, R309) -/

theorem source_textured {m : RenderMode} (hm : m.textured = true) (v : Vram) (p : Pixel) :
    source m v p = texelSource m (texel m v p.u p.v) p := if_pos hm

theorem source_untextured {m : RenderMode} (hm : m.textured = false) (v : Vram) (p : Pixel) :
    source m v p = some (rgb5OfColour p.r p.g p.b, false) := if_neg (ne_true_of_eq_false hm)

/-- The colour of a texel that is not transparent: as it is with `RAW`, else modulated (R305). -/
def texelColour (m : RenderMode) (t : BitVec 16) (p : Pixel) : Rgb5 :=
  if m.raw then rgb5Of t else modulateRgb (rgb5Of t) p.r p.g p.b

theorem texelSource_of_ne {t : BitVec 16} (ht : t ≠ 0#16) (m : RenderMode) (p : Pixel) :
    texelSource m t p = some (texelColour m t p, t.getLsbD 15) := if_neg ht

theorem texelColour_inRange (m : RenderMode) (t : BitVec 16) (p : Pixel) : (texelColour m t p).InRange := by
  unfold texelColour
  split
  · exact rgb5Of_inRange t
  · exact modulateRgb_inRange ..

theorem texelColour_channel (m : RenderMode) (t : BitVec 16) (p : Pixel) {lo : Nat}
    (hlo : lo = 0 ∨ lo = 5 ∨ lo = 10) :
    (texelColour m t p).channel lo = if m.raw then (t.extractLsb' lo 5).toNat
      else min 31 ((t.extractLsb' lo 5).toNat * Rgb5.channel ⟨p.r, p.g, p.b⟩ lo / 128) := by
  rw [← rgb5Of_channel t hlo, ← modulate_eq_div, ← modulateRgb_channel, texelColour]
  split <;> rfl

theorem plot_of_transparent {m : RenderMode} {v : Vram} {p : Pixel} (h : source m v p = none) : plot m v p = v := by
  rw [plot, h]

/-- A protected cell is left as it is, whatever the source (R307). -/
theorem plot_of_protected {m : RenderMode} {v : Vram} {p : Pixel}
    (h : m.chk = true ∧ maskBit (v.read p.x p.y) = true) : plot m v p = v := by
  obtain ⟨hchk, hmask⟩ := h
  rcases plot_cases m v p with e | ⟨hopen, -⟩
  · exact e
  · simp [hchk, hmask] at hopen

section
variable {m : RenderMode} {v : Vram} {p : Pixel} {c : Rgb5} {sm : Bool} (hs : source m v p = some (c, sm))
  (hopen : ¬ (m.chk = true ∧ maskBit (v.read p.x p.y) = true))
include hs hopen

theorem plot_read : (plot m v p).read p.x p.y = pixelOf (blended m (v.read p.x p.y) c sm) (sm || m.set) := by
  have hwrite : plot m v p = v.write p.x p.y (plotValue m (v.read p.x p.y) c sm) := by
    rw [plot, hs]
    exact if_neg (by simpa using hopen)
  rw [hwrite, Vram.read_write, if_pos rfl, plotValue]

theorem plot_read_mask (hc : c.InRange) : ((plot m v p).read p.x p.y).getLsbD 15 = (sm || m.set) := by
  rw [plot_read hs hopen, getLsbD_pixelOf_mask (blended_inRange hc ..)]

theorem rgb5Of_plot_read (hc : c.InRange) :
    rgb5Of ((plot m v p).read p.x p.y) = blended m (v.read p.x p.y) c sm := by
  rw [plot_read hs hopen, rgb5Of_pixelOf (blended_inRange hc ..)]

/-- A pixel that is not blended has the source's channels. -/
theorem plot_read_channel_opaque (hc : c.InRange) (hb : (m.semi && (!m.textured || sm)) = false) {lo : Nat}
    (hlo : lo = 0 ∨ lo = 5 ∨ lo = 10) :
    (((plot m v p).read p.x p.y).extractLsb' lo 5).toNat = c.channel lo := by
  rw [← rgb5Of_channel _ hlo, rgb5Of_plot_read hs hopen hc, blended, if_neg (ne_true_of_eq_false hb)]

/-- A blended pixel has the blend of the destination's and the source's channels (R308). -/
theorem plot_read_channel_blend (hc : c.InRange) (hb : (m.semi && (!m.textured || sm)) = true) {lo : Nat}
    (hlo : lo = 0 ∨ lo = 5 ∨ lo = 10) :
    (((plot m v p).read p.x p.y).extractLsb' lo 5).toNat =
      blend m.abr ((v.read p.x p.y).extractLsb' lo 5).toNat (c.channel lo) := by
  rw [← rgb5Of_channel _ hlo, ← rgb5Of_channel _ hlo, rgb5Of_plot_read hs hopen hc, blended, if_pos hb,
    blendRgb_channel]

end

/-! ## The two pipelines -/

/-- Settles O24: the source is the truncated draw colour with mask bit 0, blended exactly where `S` asks for it. -/
theorem untexturedPixelPipeline : Obligations.UntexturedPixelPipeline := by
  intro m v p htex hr hg hb
  have hs := source_untextured htex v p
  have hc := rgb5OfColour_inRange hr hg hb
  refine ⟨plot_of_protected, fun hopen => ⟨fun hsemi => ?_, fun hsemi => ⟨?_, fun lo k hk => ?_⟩⟩⟩
  · have hopaque : blended m (v.read p.x p.y) (rgb5OfColour p.r p.g p.b) false = rgb5OfColour p.r p.g p.b :=
      if_neg (by simp [hsemi])
    rw [plot_read hs hopen, hopaque, Bool.false_or, pixelOf_eq_append hc]
    simp only [rgb5OfColour, Nat.shiftRight_eq_div_pow, Nat.reducePow]
  · simpa using plot_read_mask hs hopen hc
  · obtain ⟨hlo, rfl⟩ := mem_channels hk
    rw [plot_read_channel_blend hs hopen hc (by simp [hsemi, htex]) hlo, rgb5OfColour_channel]
    exact blend_eq_div ..

/-- Settles O25: the source is the texel's colour, raw or modulated, with the texel's bit 15, which also gates the
blend. -/
theorem texturedPixelPipeline : Obligations.TexturedPixelPipeline := by
  intro m v p htex
  refine ⟨fun h => ?_, fun ht hopen => ?_⟩
  · rcases h with hzero | hprot
    · exact plot_of_transparent ((source_textured htex v p).trans (if_pos hzero))
    · exact plot_of_protected hprot
  have hs := (source_textured htex v p).trans (texelSource_of_ne ht m p)
  have hc := texelColour_inRange m (texel m v p.u p.v) p
  refine ⟨plot_read_mask hs hopen hc, fun hgate => ?_, fun hsemi hbit lo k src hk hsrc => ?_⟩
  · have hopaque : (m.semi && (!m.textured || (texel m v p.u p.v).getLsbD 15)) = false := by
      rcases hgate with h | h <;> rw [h, htex] <;> simp
    refine ⟨fun hraw => colourBits_eq_of_rgb5Of ?_, fun hraw lo k hk => ?_⟩
    · rw [rgb5Of_plot_read hs hopen hc, blended, if_neg (ne_true_of_eq_false hopaque), texelColour, if_pos hraw]
    · obtain ⟨hlo, rfl⟩ := mem_channels hk
      rw [plot_read_channel_opaque hs hopen hc hopaque hlo, texelColour_channel _ _ _ hlo,
        if_neg (ne_true_of_eq_false hraw)]
  · obtain ⟨hlo, rfl⟩ := mem_channels hk
    rw [plot_read_channel_blend hs hopen hc (by simp [hsemi, hbit]) hlo, texelColour_channel _ _ _ hlo, ← hsrc]
    exact blend_eq_div ..

/-! ## Texels (R304, R330) -/

/-- The bits of an `n`-bit field of a word. -/
theorem testBit_field (w : BitVec 16) (lo : Nat) {n j : Nat} (hj : j < n) :
    ((w.toNat >>> lo) % 2 ^ n).testBit j = w.getLsbD (lo + j) := by
  simp [Nat.testBit_mod_two_pow, hj, BitVec.getLsbD]

theorem clutEntry_eq (v : Vram) (k : ClutSel) (i : Nat) :
    clutEntry v k i = v.read (16 * k.cx.toNat + i : Nat) k.cy.toNat := by
  simp [clutEntry, clutX, clutY]

/-- The cell `i` columns and `j` rows into a page (R330). -/
theorem read_page (v : Vram) (tpx : BitVec 4) (tpy : BitVec 1) (i j : Nat) :
    v.read (pageX tpx + i) (pageY tpy + j) = v.read (64 * tpx.toNat + i : Nat) (256 * tpy.toNat + j : Nat) := by
  simp [pageX, pageY]

/-- A texel looked up by an `n`-bit field of a word is one of `2 ^ n` palette entries (R117, R304). -/
theorem exists_clutEntry_field {t : BitVec 16} {v : Vram} {k : ClutSel} {w : BitVec 16} {lo n : Nat}
    (ht : t = clutEntry v k ((w.toNat >>> lo) % 2 ^ n)) :
    ∃ i : Nat, i < 2 ^ n ∧ t = v.read (16 * k.cx.toNat + i : Nat) k.cy.toNat ∧
      ∀ j, j < n → i.testBit j = w.getLsbD (lo + j) :=
  ⟨_, Nat.mod_lt _ (Nat.two_pow_pos n), ht.trans (clutEntry_eq ..), fun _ hj => testBit_field w lo hj⟩

/-- Settles O26: by the depth, whose palette index is a field of the cell the texel is in. -/
theorem texelFetchByDepth : Obligations.TexelFetchByDepth := by
  intro m v a b
  refine ⟨fun hd => ?_, fun hd => ?_, fun hd => ?_⟩ <;> rw [← read_page]
  · have htexel : texelAt m v a b = clutEntry v m.clut (index4 v.native (pageX m.tpx) (pageY m.tpy) a b) := by
      unfold texelAt; rw [hd]; rfl
    exact exists_clutEntry_field (n := 4) htexel
  · have htexel : texelAt m v a b = clutEntry v m.clut (index8 v.native (pageX m.tpx) (pageY m.tpy) a b) := by
      unfold texelAt; rw [hd]; rfl
    exact exists_clutEntry_field (n := 8) htexel
  · unfold texelAt
    rcases hd with hd | hd <;> rw [hd] <;> rfl

end Sys2Proof.Machine
end

section
/-! The report of a rectangle drops the pages with a cell in it and no other (R330, R333). -/

namespace Sys2Proof.Machine

/-- Rectangles that meet share the corner of their intersection with the least coordinates (R11). -/
theorem Rect.exists_has_of_meets {a b : Rect} (h : a.meets b = true) :
    ∃ x y : Int, a.has x y = true ∧ b.has x y = true := by
  refine ⟨max a.x0 b.x0, max a.y0 b.y0, ?_⟩
  simp only [Rect.meets, Rect.isEmpty, Bool.and_eq_true, Bool.not_eq_true', Bool.or_eq_false_iff,
    decide_eq_false_iff_not, decide_eq_true_eq] at h
  rw [Rect.has_iff, Rect.has_iff]
  omega

/-- A footprint meets a rectangle inside VRAM with the page's own columns, or with those that wrap (R330). -/
theorem exists_has_inFootprint_of_footprintMeets {e : TpcEntry} {r : Rect} (hr : r.insideVram)
    (h : footprintMeets e r = true) : ∃ x y : Int, r.has x y = true ∧ inFootprint e x y := by
  obtain ⟨⟨hx0, hx1⟩, -⟩ := hr
  rw [footprintMeets, Bool.or_eq_true] at h
  rcases h with own | wrapped
  · obtain ⟨x, y, hin, hpage⟩ := Rect.exists_has_of_meets own
    refine ⟨x, y, hin, ?_, x - pageX (e.page.extractLsb' 0 4), ?_⟩ <;> simp only [Rect.has_iff] at hin hpage <;> omega
  · obtain ⟨x, y, hin, hpage⟩ := Rect.exists_has_of_meets wrapped
    refine ⟨x, y, hin, ?_, x + 1024 - pageX (e.page.extractLsb' 0 4), ?_⟩ <;>
      simp only [Rect.has_iff] at hin hpage <;> omega

/-- Inside VRAM, `footprintMeets` decides whether a page has a cell in the rectangle (R330, R333). -/
theorem footprintMeets_iff {e : TpcEntry} {r : Rect} (hr : r.insideVram) :
    footprintMeets e r = true ↔ ∃ x y : Int, r.has x y = true ∧ inFootprint e x y := by
  refine ⟨exists_has_inFootprint_of_footprintMeets hr, ?_⟩
  rintro ⟨x, y, hin, hrow, k, hk0, hk, rfl⟩
  refine footprintMeets_of_has (x := pageX (e.page.extractLsb' 0 4) + k) (y := y) (by omega) (by omega) ?_
  simpa using Rect.has_mod hr hin

/-- Settles O46: `DIRTY` becomes the bounding box by definition, and the page cache is filtered by `footprintMeets`. -/
theorem reportDropsPagesInItsRectangle : Obligations.ReportDropsPagesInItsRectangle := by
  intro r s hx0 _ hx1 hy0 _ hy1
  refine ⟨rfl, fun e he => ?_⟩
  rw [report_tpc, List.mem_filter, ← footprintMeets_iff ⟨⟨hx0, hx1⟩, hy0, hy1⟩]
  simp [he]

end Sys2Proof.Machine
end

section
/-! The control port and the display's registers (R350 to R361, R430): the commands that write or latch a register, the
status word, and the registers after power-on. -/

namespace Sys2Proof.Machine

/-! ## G1.ABORT (R352) -/

theorem reportAborted_of_midImage {s : State} (h : s.midImage) : reportAborted s = report s.img.target s := if_pos h

theorem reportAborted_of_not_midImage {s : State} (h : ¬ s.midImage) : reportAborted s = s := if_neg h

theorem exec_g1Abort (s : State) : exec .g1Abort s = .next { reportAborted s with dstate := .idle, clen := 0 } := rfl

/-- Settles O50: the report, where an image-in is under way, and then two registers. -/
theorem abortEndsTheDataPhase : Obligations.AbortEndsTheDataPhase := by
  refine fun s => ⟨fun hm => ?_, fun hm => ?_⟩
  · rw [exec_g1Abort, reportAborted_of_midImage hm]
  · rw [exec_g1Abort, reportAborted_of_not_midImage hm]

/-! ## The display's registers (R354, R355, R357 to R359) -/

/-- Of the opcodes below 20 the decoder's lower table has the instruction (R127). -/
theorem decodeGp1_of_lt {w : Word} (h : (gp1OpcodeOf w).toNat < 32) :
    decodeGp1 w = decodeGp1Low (gp1OpcodeOf w).toNat w := if_pos h

theorem decodeGp1_of_opcode {w : Word} {op : BitVec 6} (h : gp1OpcodeOf w = op) (hop : op.toNat < 32) :
    decodeGp1 w = decodeGp1Low op.toNat w := by
  subst h
  exact decodeGp1_of_lt hop

/-- Settles O51: the words by rows 3, 4, 6, 7 and 8 of the decoder's table, the meanings by one record update each. -/
theorem displayCommandsWriteTheirFields : Obligations.DisplayCommandsWriteTheirFields := by
  refine ⟨fun w => ⟨?dispen, ?dmadir, ?hrange, ?vrange, ?mode⟩, fun s => ⟨?_, ?_, ?_, ?_, ?_⟩⟩
  case dispen | dmadir | hrange | vrange => exact fun h => decodeGp1_of_opcode h (by decide)
  case mode => exact fun h => ⟨.ofWord w, decodeGp1_of_opcode h (by decide), rfl, rfl⟩
  · exact fun o => show execG1Dispen o s = _ from rfl
  · exact fun o => show execG1Dmadir o s = _ from rfl
  · exact fun o => show execG1Hrange o s = _ from rfl
  · exact fun o => show execG1Vrange o s = _ from rfl
  · exact fun o => show execG1Mode o s = _ from rfl

/-! ## G1.INFO (R361) -/

/-- The sixteen aliases read the same operand (R127, R129). -/
theorem decodeGp1Low_operands_info {v : Nat} (hlo : 16 ≤ v) (hhi : v < 32) (w : Word) :
    (decodeGp1Low v w).operands = .info (.ofWord w) := by
  interval_cases v <;> rfl

theorem exec_info {i : Instr} {o : Info} (h : i.operands = .info o) (s : State) : exec i s = .next (latchInfo o s) := by
  cases execForm i with
  | info o' ho _ he => cases h.symm.trans ho; exact he s
  | keeps ho | copy _ ho | imageIn _ ho | imageOut _ ho => exact nomatch h.symm.trans ho
  | polygon c hc => simp [polygonOf, h] at hc
  | rectangle c hc => simp [rectangleOf, h] at hc
  | line c hc | polyline c hc => simp [lineOf, h] at hc
  | flush e | fill _ e | setmode _ e | settw _ e | setclip1 _ e | setclip2 _ e | setofs _ e | setmask _ e | g1Reset e
  | g1Abort e | g1Dispen _ e | g1Dmadir _ e | g1Origin _ e | g1Hrange _ e | g1Vrange _ e | g1Mode _ e =>
    subst e; cases h

/-- Settles O52: every alias is `latchInfo` of its index, and each index has its row of R361's table. -/
theorem infoLatchesARegister : Obligations.InfoLatchesARegister := by
  refine ⟨fun w hlo hhi => ?_, fun s h => ?_, fun i o s ho => ⟨_, exec_info ho s, rfl, ?_⟩⟩
  · rw [decodeGp1_of_lt (by omega), decodeGp1Low_operands_info hlo (by omega)]
    rfl
  · rcases gpuRead_cases s with ⟨-, e⟩ | ⟨hactive, -⟩
    · exact e
    · cases h.symm.trans hactive
  · obtain ⟨index⟩ := o
    refine ⟨?_, ?_, ?_, ?_, ?_, ?_⟩
    · rintro (rfl | rfl | rfl) <;> rfl
    all_goals rintro rfl; rfl

/-! ## GPUSTAT (R360) -/

/-- Reading the status word returns it and changes nothing else. -/
theorem step_gpuStat {rest : List Call} {s : State} (hc : s.calls = .gpuStat :: rest) :
    step s = .next { s with calls := rest, returns := s.returns ++ [s.gpuStat] } :=
  step_of_not_mustWait hc rfl

theorem reset_gpuStat : State.reset.gpuStat = 0x1C802000#32 := by decide

section
variable (s : State)

/-- The draw mode stands in bits 10:0, as E1 lays it out (R21). -/
theorem gpuStat_drawMode :
    s.gpuStat.extractLsb' 0 4 = s.dm.tpx ∧ s.gpuStat.extractLsb' 4 1 = s.dm.tpy ∧
    s.gpuStat.extractLsb' 5 2 = s.dm.abr ∧ s.gpuStat.extractLsb' 7 2 = s.dm.tdepth ∧
    s.gpuStat.getLsbD 9 = s.dm.dtd ∧ s.gpuStat.getLsbD 10 = s.dm.dfe := by
  refine ⟨?_, ?_, ?_, ?_, ?dtd, ?dfe⟩
  case dtd | dfe => simp only [State.gpuStat, DrawMode.bits, bit, BitVec.getLsbD_append]; simp
  all_goals
    simp (disch := decide) only [State.gpuStat, DrawMode.bits, BitVec.extractLsb'_append_eq_of_le,
      BitVec.extractLsb'_append_eq_of_add_le, BitVec.extractLsb'_eq_self, Nat.reduceSub]

/-- The fields of several bits above it. -/
theorem gpuStat_fields :
    s.gpuStat.extractLsb' 17 2 = s.pend.hres1 ∧ s.gpuStat.extractLsb' 26 3 = 7#3 ∧
    s.gpuStat.extractLsb' 29 2 = s.dmadir := by
  refine ⟨?_, ?_, ?_⟩ <;>
    simp (disch := decide) only [State.gpuStat, BitVec.extractLsb'_append_eq_of_le,
      BitVec.extractLsb'_append_eq_of_add_le, BitVec.extractLsb'_eq_self, Nat.reduceSub]

/-- The single bits above it, each counted down through the parts to the right of its own. -/
theorem gpuStat_flags :
    s.gpuStat.getLsbD 11 = s.msk.set ∧ s.gpuStat.getLsbD 12 = s.msk.chk ∧
    s.gpuStat.getLsbD 13 = statField s.pend.ilace s.field ∧ s.gpuStat.getLsbD 14 = s.pend.rev ∧
    s.gpuStat.getLsbD 15 = false ∧ s.gpuStat.getLsbD 16 = s.pend.hres2 ∧ s.gpuStat.getLsbD 19 = s.pend.vres ∧
    s.gpuStat.getLsbD 20 = s.pend.pal ∧ s.gpuStat.getLsbD 21 = s.pend.c24 ∧ s.gpuStat.getLsbD 22 = s.pend.ilace ∧
    s.gpuStat.getLsbD 23 = s.pend.dispoff ∧ s.gpuStat.getLsbD 24 = false ∧
    s.gpuStat.getLsbD 25 = decide (s.dmadir ≠ 0#2) ∧ s.gpuStat.getLsbD 31 = s.field := by
  simp only [State.gpuStat, bit, BitVec.getLsbD_append]
  simp [bne, beq_eq_decide]

end

/-- Settles O53: the parts of the word, taken in the order of their bits. -/
theorem statusWordBits : Obligations.StatusWordBits := by
  refine ⟨reset_gpuStat, fun rest s => step_gpuStat, fun s => ?_⟩
  obtain ⟨tpx, tpy, abr, tdepth, dtd, dfe⟩ := gpuStat_drawMode s
  obtain ⟨hres1, ones, dir⟩ := gpuStat_fields s
  obtain ⟨set, chk, parity, rev, b15, hres2, vres, pal, c24, ilace, dispoff, b24, dma, odd⟩ := gpuStat_flags s
  exact ⟨tpx, tpy, abr, tdepth, dtd, dfe, set, chk, parity, rev, b15, hres2, hres1, vres, pal, c24, ilace, dispoff, b24,
    dma, ones, dir, odd⟩

/-! ## Power-on (R430) -/

/-- Neither VRAM nor the clock is read by the status word. -/
theorem powerOn_gpuStat (native : Memory) (now : Nat) : (State.powerOn native now).gpuStat = State.reset.gpuStat := rfl

/-- `Visible` of the display configuration after reset: `(0xC00 - 0x200) / 10` pixels, 240 lines (R364). -/
theorem visible_reset : DisplayConfig.reset.visible = ⟨0, 0, 255, 239⟩ := by decide

/-- Settles O54: the fields of `State.powerOn`, and what the words and rectangles computed from them are. -/
theorem powerOnRegisterValues : Obligations.PowerOnRegisterValues := by
  rintro native now s rfl
  refine ⟨⟨rfl, rfl, rfl, rfl, rfl⟩, fun i => ⟨windowEntry_zero _ i, windowEntry_zero _ i⟩, rfl, ⟨rfl, rfl, rfl, rfl⟩,
    ⟨rfl, rfl, rfl, rfl⟩, ⟨rfl, rfl, fun x y => ⟨rfl, powerOn_flagsAt native now x y⟩⟩, fun p d => rfl,
    ⟨rfl, rfl, rfl, rfl⟩, ⟨rfl, rfl, rfl, rfl⟩, ?_, rfl, visible_reset⟩
  rw [powerOn_gpuStat, reset_gpuStat]

end Sys2Proof.Machine
end

section
/-! The decision to refresh, and that a tick makes one in time (R356, R370 to R375). -/

namespace Sys2Proof.Machine

/-- `Changed(a, b)` (R372). -/
theorem changed_iff (a b : DisplayConfig) : changed a b = true ↔ { a with orgx := b.orgx, orgy := b.orgy } ≠ b :=
  decide_eq_true_iff

/-- When a decision refreshes (R371). -/
theorem wantsRefresh_iff (tDirtyNs tLiveNs : Nat) (s : State) : wantsRefresh tDirtyNs tLiveNs s = true ↔
    { s.cur with orgx := s.pend.orgx, orgy := s.pend.orgy } ≠ s.pend ∨
      (nextPending s = true ∧ tDirtyNs ≤ s.now - s.tDirty) ∨ tLiveNs ≤ s.now - s.tAny := by
  simp only [wantsRefresh, Bool.or_eq_true, Bool.and_eq_true, decide_eq_true_eq, changed_iff, or_assoc, ge_iff_le]

/-- A decision that refreshes promotes `PEND` and restarts both intervals (R371, R373). -/
theorem decideRefresh_of_wants {s : State} (h : wantsRefresh Config.tDirtyNs Config.tLiveNs s = true) :
    decideRefresh s = { s with dirty := none, pendingDirty := false, cur := s.pend, tAny := s.now, tDirty := s.now,
                               trace := s.trace ++ [.refresh s.pend] } := if_pos h

/-- A decision that does not only moves the dirt from `DIRTY` to `PENDING_DIRTY` (R371). -/
theorem decideRefresh_of_not_wants {s : State} (h : ¬ wantsRefresh Config.tDirtyNs Config.tLiveNs s = true) :
    decideRefresh s = { s with dirty := none, pendingDirty := nextPending s } := if_neg h

/-- Settles O55: the two branches of `Decide`, whose test is `wantsRefresh_iff`. -/
theorem decisionsFollowTheRule : Obligations.DecisionsFollowTheRule := by
  intro s d hd
  obtain rfl : d = nextPending s := hd
  refine ⟨fun h => ?_, fun h => ?_, rfl, fun o => show execG1Origin o s = _ from rfl⟩
  · exact decideRefresh_of_wants ((wantsRefresh_iff ..).2 h)
  · exact decideRefresh_of_not_wants fun hw => h ((wantsRefresh_iff ..).1 hw)

/-! ## Liveness (R374, R375) -/

theorem step_vsyncTick {rest : List Call} {s : State} (hc : s.calls = .vsyncTick :: rest) :
    step s = .next (vsyncTick { s with calls := rest }) :=
  step_of_not_mustWait hc rfl

theorem config_intervals : 0 < Config.tDirtyNs ∧ Config.tDirtyNs < Config.tLiveNs := by
  unfold Config.tLiveNs Config.tDirtyNs
  omega

/-- Settles O56: the third reason to refresh does not ask for the others. -/
theorem ticksKeepTheDisplayAlive : Obligations.TicksKeepTheDisplayAlive := by
  refine ⟨config_intervals, fun s rest hc hlive => ⟨_, step_vsyncTick hc, ?_⟩⟩
  have hwants : wantsRefresh Config.tDirtyNs Config.tLiveNs { s with calls := rest, field := !s.field } = true :=
    (wantsRefresh_iff ..).2 (.inr (.inr hlive))
  rw [vsyncTick, decideRefresh_of_wants hwants]
  exact ⟨rfl, rfl, rfl, rfl⟩

end Sys2Proof.Machine
end
